-- ==== Sys2Proof/Word.lean ====
section
/-! DEFINITION. The widths of the engine's values (spec 00_scope.md R6; 10_state.md R20; 30_encoding.md R80).
Every multi-bit value is an unsigned bit vector whose bit 0 is the least significant one (R6).
A one-bit value (a line level, a latch, the parity bit, a pull) is a `Bool`: `true` is 1, a high level, a pull that pulls. -/

namespace Sys2Proof

/-- An 8-bit value: an operand, the accumulator, the received byte (R20, R81). -/
abbrev Byte := BitVec 8

/-- A pin identifier, `PIN_ID_WIDTH` = 8 bits (R5, decision D4). The engine never computes with it (R53). -/
abbrev PinId := BitVec 8

/-- The command word on port `cmd[17:0]` (R80). -/
abbrev CmdWord := BitVec 18

end Sys2Proof
end

