-- ==== Sys2Proof/Syntax.lean ====
section
/-! DEFINITION. The four host commands (spec 30_encoding.md R82, opcode_table.json), the engine's only instructions (R1). -/

namespace Sys2Proof

/-- A command with all the bits of its word. `b` of SEND and SENDCMD, and `a` and `b` of RECV, are the operand bits the command
ignores: acceptance copies them to `OPA` and `OPB` like any other (R83), so they are part of the command. -/
inductive Instr where
  /-- `CONFIG clk, dat`: bind the two lines to pads (R110). -/
  | config (clk dat : PinId)
  /-- `SEND v`: transmit one byte (R120). -/
  | send (v b : Byte)
  /-- `RECV`: receive one byte (R140). -/
  | recv (a b : Byte)
  /-- `SENDCMD c`: transmit a byte, receive the response and compare it with `ACK` (R160). -/
  | sendcmd (c b : Byte)
  deriving DecidableEq, Repr

namespace Instr

/-- The opcode field of a command (R82). -/
def opcode : Instr → BitVec 2
  | config _ _ => 0
  | send _ _ => 1
  | recv _ _ => 2
  | sendcmd _ _ => 3

/-- Operand A of a command, field `a` of its word (R81). -/
def operandA : Instr → Byte
  | config clk _ => clk
  | send v _ => v
  | recv a _ => a
  | sendcmd c _ => c

/-- Operand B of a command, field `b` of its word (R81). -/
def operandB : Instr → Byte
  | config _ dat => dat
  | send _ b => b
  | recv _ b => b
  | sendcmd _ b => b

end Instr

end Sys2Proof
end

