-- ==== Sys2Proof/WellFormed.lean ====
section
/-! DEFINITION. Which commands are well formed (spec 30_encoding.md R83, R85). -/

namespace Sys2Proof.Instr

/-- A command the engine takes. "No operand value is illegal to the engine" (R83), and the types already bound the operands to
their fields, so every command is. -/
def wellFormed : Instr → Bool
  | config _ _ => true
  | send _ _ => true
  | recv _ _ => true
  | sendcmd _ _ => true

/-- A command the assembler of R85 can write: the operand bits it does not use are 0. -/
def assemblerForm : Instr → Bool
  | config _ _ => true
  | send _ b => b == 0
  | recv a b => a == 0 && b == 0
  | sendcmd _ b => b == 0

end Sys2Proof.Instr
end

