-- ==== Sys2Proof/Decode.lean ====
section
/-! DEFINITION. From a command word to a command and back (spec 30_encoding.md R80 to R84). -/

namespace Sys2Proof

/-- Field `op`, bits 17:16 of the word (R80). -/
def fieldOp (w : CmdWord) : BitVec 2 := w.extractLsb' 16 2

/-- Field `a`, bits 15:8 (R80, R81). -/
def fieldA (w : CmdWord) : Byte := w.extractLsb' 8 8

/-- Field `b`, bits 7:0 (R80, R81). -/
def fieldB (w : CmdWord) : Byte := w.extractLsb' 0 8

/-- A row of the opcode map: `(cmd & mask) == match` says that the word is the row's command, `build` makes it from the two
operand fields (R82). -/
structure OpcodeRow where
  mnemonic : String
  pattern : CmdWord
  mask : CmdWord
  build : Byte → Byte → Instr

/-- "A decoder tests `(cmd & mask) == match`" (R82). -/
def OpcodeRow.fits (r : OpcodeRow) (w : CmdWord) : Bool := w &&& r.mask == r.pattern

def rowConfig : OpcodeRow := ⟨"CONFIG", 0x00000#18, 0x30000#18, .config⟩
def rowSend : OpcodeRow := ⟨"SEND", 0x10000#18, 0x30000#18, .send⟩
def rowRecv : OpcodeRow := ⟨"RECV", 0x20000#18, 0x30000#18, .recv⟩
def rowSendcmd : OpcodeRow := ⟨"SENDCMD", 0x30000#18, 0x30000#18, .sendcmd⟩

/-- The opcode map of R82 (opcode_table.json), in the table's order. -/
def opcodeRows : List OpcodeRow := [rowConfig, rowSend, rowRecv, rowSendcmd]

/-- The command a word decodes to. The four rows cover all 2^18 words, so decoding is total and refuses nothing (R83): a word
that fits none of the first three rows is the fourth's. -/
def decode (w : CmdWord) : Instr :=
  if rowConfig.fits w then rowConfig.build (fieldA w) (fieldB w)
  else if rowSend.fits w then rowSend.build (fieldA w) (fieldB w)
  else if rowRecv.fits w then rowRecv.build (fieldA w) (fieldB w)
  else rowSendcmd.build (fieldA w) (fieldB w)

/-- The word of a command: `{op, a, b}` (R80, R85). -/
def encode (i : Instr) : CmdWord := i.opcode ++ i.operandA ++ i.operandB

/-- The opcode-map row of a command (R82). -/
def Instr.row : Instr → OpcodeRow
  | .config _ _ => rowConfig
  | .send _ _ => rowSend
  | .recv _ _ => rowRecv
  | .sendcmd _ _ => rowSendcmd

/-- Why a number is no command word. -/
inductive DecodeError where
  /-- The number needs more than the 18 bits of port `cmd[17:0]` (R80, R84). -/
  | widerThanPort
  deriving DecidableEq, Repr

/-- The command of a number that is to be presented on port `cmd[17:0]`, which has 18 wires and nothing beside them (R80). -/
def decodeNumber (w : Nat) : Except DecodeError Instr :=
  if w < 2 ^ 18 then .ok (decode (BitVec.ofNat 18 w)) else .error .widerThanPort

/-- The command a row of the opcode table gives, the word numbered as the table numbers it: `w` holds its `nbits` lowest bits,
every bit above them is 0 (notes/assumptions/17.md). -/
def decodeTableWord (nbits w : Nat) : Option Instr :=
  match decodeNumber (w % 2 ^ nbits) with
  | .ok i => some i
  | .error _ => none

end Sys2Proof
end

