-- ==== Sys2Proof/Config.lean ====
section
/-! DEFINITION. The model's parameters (spec 00_scope.md R5) and its free values (20_memory.md R51).
The parameters are configuration, not architectural state (10_state.md R20): `Params` is the type of one choice of them, a
machine holds its choice in `State.params` because `exec` and `step` have no other argument, and nothing the machine does
changes it (notes/assumptions/4.md). -/

namespace Sys2Proof

/-- `VALID_PINS`, a set of pin identifiers: every identifier, or the listed ones (R5: open, a subset of 0..255). -/
inductive PinSet where
  | all
  | only (pins : List PinId)
  deriving DecidableEq, Repr

/-- Whether the platform has the pin identifier (R57). -/
def PinSet.has : PinSet → PinId → Bool
  | .all, _ => true
  | .only pins, p => pins.contains p

/-- The parameters of R5 that a model may choose. `PIN_ID_WIDTH` is `PinId`; `WAIT_TIMEOUT` is none; `FINAL_WAIT_ORDER` and
`OUT_MODE_ORDER` are fixed by the micro-program. -/
structure Params where
  /-- `INHIBIT_US`, the length of the request-to-send hold in microseconds. -/
  inhibitUs : Nat := 150
  /-- `INHIBIT_MIN_US`, the protocol's minimum for the hold. -/
  inhibitMinUs : Nat := 100
  /-- `ACK`, the byte SENDCMD compares the response with (R90). -/
  ack : Byte := 0xFA
  /-- `CYCLES_PER_US`, open, a positive integer (decision D8). -/
  cyclesPerUs : Nat
  /-- `VALID_PINS`, open (decision D22). -/
  validPins : PinSet
  deriving DecidableEq, Repr

namespace Params

/-- The cycles that `n` microseconds last (R173). -/
def cyclesOf (p : Params) (n : Nat) : Nat := n * p.cyclesPerUs

/-- `INHIBIT_CYCLES` = `INHIBIT_US * CYCLES_PER_US` (R5). -/
def inhibitCycles (p : Params) : Nat := p.cyclesOf p.inhibitUs

/-- The constraint R124 and R228 put on the parameters: `INHIBIT_US >= INHIBIT_MIN_US` and `INHIBIT_CYCLES >= 1`. A choice
outside it is outside the spec (93_implementation_defined.md U14). -/
def lawful (p : Params) : Bool := decide (p.inhibitMinUs ≤ p.inhibitUs) && decide (1 ≤ p.inhibitCycles)

/-- The choice the spec's test vectors take (95_test_vectors.md, section 0): one cycle a microsecond, all 256 identifiers
valid, the values of R5 elsewhere. DESIGN CHOICE for the two open ones (notes/assumptions/4.md). -/
def ofTestVectors : Params where
  cyclesPerUs := 1
  validPins := .all

end Params

/-- FREE VALUE. The peripheral's pull on the clock line in the `k`-th cycle for which the state lists no pulls: `P_CLK` is a
free input under no law (R51), so nothing is known of it (notes/assumptions/3.md). -/
opaque Config.freePullClk : Nat → Bool

/-- FREE VALUE. The peripheral's pull on the data line in such a cycle (R51). -/
opaque Config.freePullDat : Nat → Bool

end Sys2Proof
end

