-- ==== Sys2Proof/Machine/State.lean ====
section
/-! DEFINITION. The state of the engine (spec 10_state.md R20 to R34, R43), the reasons a step can stop, and the state just after
a reset cycle. -/

namespace Sys2Proof.Machine

/-- The two lines of the line space (20_memory.md R52). -/
inductive Line where
  | clk
  | dat
  deriving DecidableEq, Repr

/-- The mode of a driver cell, `MODE_L`: 0 = `IN_PULLUP`, 1 = `OUT` (R27). -/
inductive PadMode where
  | inPullup
  | out
  deriving DecidableEq, Repr

/-- The driver cell of one line: `MODE_L` (R27) and `LATCH_L` (R28), the level the engine asserts while the mode is `OUT`. -/
structure Cell where
  mode : PadMode
  latch : Bool
  deriving DecidableEq, Repr

/-- A released cell, as after reset: `IN_PULLUP` with latch 1 (R43, R44). -/
def Cell.released : Cell := ⟨.inPullup, true⟩

/-- `SEQ`: the 35 sequencer states, in the order of R26's numbers 0 to 34. -/
inductive SeqState where
  | idle
  | cfgStore
  | txParity | txOutClk | txOutDat | txInhibit | txHold | txStart | txRelClk | txWaitDev
  | txBitDrive | txBitWh | txBitWl | txParDrive | txParWh | txParWl | txRelDat
  | txAckDat | txAckClk | txIdleDat | txIdleClk
  | rxWaitStart | rxStart | rxBitWh | rxBitWl | rxBitSample | rxParWh | rxParWl | rxParSample
  | rxStopWh | rxStopWl | rxStopSample | rxEndWh | rxDone
  | ackCheck
  deriving DecidableEq, Repr

/-- What the host drives in one cycle: `rst` (R42) and the command port `cmd_valid`, `cmd[17:0]` (R36). -/
structure HostIn where
  rst : Bool
  cmdValid : Bool
  cmd : CmdWord
  deriving DecidableEq, Repr

/-- A host that does nothing in a cycle: no reset, no command. -/
def HostIn.quiet : HostIn := ⟨false, false, 0⟩

/-- The peripheral's pulls in one cycle, `P_CLK` and `P_DAT`: `true` pulls the line low (R51). -/
structure Pulls where
  clk : Bool
  dat : Bool
  deriving DecidableEq, Repr

/-- The inputs of the coming cycles, which are not the engine's state (R20) but what the outside world will do: the model's own
field. `host` and `pulls` list them cycle by cycle, this cycle's first. After the end of `pulls` the pulls are free values
numbered by `tick`; after the end of `host` the host is quiet (notes/assumptions/2.md, 3.md). -/
structure Env where
  host : List HostIn
  pulls : List Pulls
  tick : Nat
  deriving DecidableEq, Repr

/-- The state of the machine. Beside the registers of R20 it holds the ghost `configured` (R43), the parameters (R5) and the
inputs to come. -/
structure State where
  /-- `SEQ` (R26), the sequencer state current in this cycle. -/
  seq : SeqState
  /-- `OP` (R23), the opcode of the command accepted last. -/
  op : BitVec 2
  /-- `OPA` (R24), operand A of the command accepted last. -/
  opa : Byte
  /-- `OPB` (R25), operand B of the command accepted last. -/
  opb : Byte
  /-- `CLKPIN` (R21), the pin identifier bound to the clock line. -/
  clkPin : PinId
  /-- `DATPIN` (R22), the pin identifier bound to the data line. -/
  datPin : PinId
  /-- `MODE_CLK`, `LATCH_CLK` (R27, R28). -/
  clkCell : Cell
  /-- `MODE_DAT`, `LATCH_DAT` (R27, R28). -/
  datCell : Cell
  /-- `PAR` (R29), the parity bit of the byte being sent. -/
  par : Bool
  /-- `ACC` (R30), the receive accumulator. -/
  acc : Byte
  /-- `BITCNT` (R33), the index of the data bit being sent or received. -/
  bitCnt : BitVec 3
  /-- `DLY` (R34), the delay down-counter, "wide enough to hold `INHIBIT_CYCLES - 1`" (notes/assumptions/14.md). -/
  dly : Nat
  /-- `STATUS` (R31): bit 0 `FE`, bit 1 `PE`, bit 2 `AM`. -/
  status : BitVec 3
  /-- `RXDATA` (R32), the last received byte. -/
  rxData : Byte
  /-- The ghost of R43 and R113: a CONFIG has completed since the last reset. Not hardware. -/
  configured : Bool
  /-- The parameters of R5, configuration: no step changes them. -/
  params : Params
  /-- The inputs of the coming cycles. -/
  env : Env
  deriving DecidableEq, Repr

/-- No step faults: nothing the engine detects stops it or traps (R10, R190, R197). No constructor, so a fault cannot arise. -/
inductive Fault where
  deriving DecidableEq, Repr

/-- Why the model refuses a command the host presents while the engine is idle. -/
inductive Refusal where
  /-- Raised by an arm of `exec` for a command without a meaning; no arm does. Safe: the model stops. -/
  | notModelled (mnemonic : String)
  /-- Raised by SEND, RECV and SENDCMD presented before any CONFIG has completed since reset (R113; U1). Safe: the model stops
  where the hardware would run with both cells routed to pad 0. -/
  | notConfigured
  /-- Raised by SEND, RECV and SENDCMD presented while clock and data are bound to one identifier (R112; U3). Safe: the model stops. -/
  | samePin
  /-- Raised by SEND, RECV and SENDCMD presented while a bound identifier is outside `VALID_PINS` (R57, R112; U2). Safe: the model stops. -/
  | invalidPin
  /-- Raised by SEND and SENDCMD in a machine whose parameters break `INHIBIT_US >= INHIBIT_MIN_US` or `INHIBIT_CYCLES >= 1`
  (R124, R228; U14). Safe: the model stops. -/
  | unlawfulParameters
  deriving DecidableEq, Repr

/-- The state just after a reset cycle (R43, R220), with the parameters of the test vectors and no input listed
(notes/assumptions/2.md, 3.md, 4.md). -/
def State.reset : State where
  seq := .idle
  op := 0
  opa := 0x00
  opb := 0x00
  clkPin := 0x00
  datPin := 0x00
  clkCell := Cell.released
  datCell := Cell.released
  par := false
  acc := 0x00
  bitCnt := 0
  dly := 0
  status := 0b000
  rxData := 0x00
  configured := false
  params := Params.ofTestVectors
  env := ⟨[], [], 0⟩

end Sys2Proof.Machine
end

