-- ==== Sys2Proof/Machine/Flags.lean ====
section
/-! DEFINITION. The parity ROM (spec 20_memory.md R58, R59) and the anomaly flags of STATUS (10_state.md R31;
60_exceptions.md R190, R191). -/

namespace Sys2Proof.Machine

/-- The sixteen entries `1001 0110 0110 1001` of R59. -/
def romRowEven : List Bool :=
  [true, false, false, true, false, true, true, false, false, true, true, false, true, false, false, true]

/-- The complement row `0110 1001 1001 0110` of R59. -/
def romRowOdd : List Bool :=
  [false, true, true, false, true, false, false, true, true, false, false, true, false, true, true, false]

/-- The contents of the parity ROM, rows 0 to 15 of R59's table. -/
def parityRom : List (List Bool) :=
  [romRowEven, romRowOdd, romRowOdd, romRowEven, romRowOdd, romRowEven, romRowEven, romRowOdd,
   romRowOdd, romRowEven, romRowEven, romRowOdd, romRowEven, romRowOdd, romRowOdd, romRowEven]

/-- `PARITY[v]`, the ROM read at address `v` (R58): row `v / 16`, column `v % 16` (R59). -/
def parity (v : Byte) : Bool := (parityRom.getD (v.toNat / 16) []).getD (v.toNat % 16) false

/-- The number of 1 bits of a byte, `popcount` (00_scope.md R6), by which R58 states the ROM's law. -/
def popcount (v : Byte) : Nat := ((List.range 8).filter v.getLsbD).length

/-- The three anomaly flags (R31). -/
inductive Anomaly where
  /-- `FE`, framing violation (R192). -/
  | fe
  /-- `PE`, parity violation (R193). -/
  | pe
  /-- `AM`, acknowledgment mismatch (R194). -/
  | am
  deriving DecidableEq, Repr

/-- The bit of STATUS that records the anomaly (R31). -/
def Anomaly.bit : Anomaly → Nat
  | .fe => 0
  | .pe => 1
  | .am => 2

/-- STATUS with one bit set: the whole of `flag X` (R191). -/
def setFlag (x : Anomaly) (status : BitVec 3) : BitVec 3 := status ||| (1#3 <<< x.bit)

/-- Whether a flag is set in a value of STATUS. -/
def hasFlag (x : Anomaly) (status : BitVec 3) : Bool := status.getLsbD x.bit

/-- `if c: flag X`. This is the hardware's form of raising an exception (00_scope.md R8), and all of it: it never changes `SEQ`,
saves nothing and transfers no control (R191, R197). -/
def State.flagIf (s : State) (c : Bool) (x : Anomaly) : State :=
  if c then { s with status := setFlag x s.status } else s

end Sys2Proof.Machine
end

