-- ==== Sys2Proof/Machine/Operands.lean ====
section
/-! DEFINITION. The data path's bit operations (spec 44_line_primitives.md R177, items 2 to 5). The operand forms of a command
word, its fields `op`, `a` and `b`, are in Decode.lean (R80, R81). -/

namespace Sys2Proof.Machine

/-- Bit select `OPA[BITCNT]` (R177 item 2): bit 0 is sent first (20_memory.md R54). -/
def selectBit (v : Byte) (i : BitVec 3) : Bool := v.getLsbD i.toNat

/-- Bit placement `ACC | (zext_8(d) << BITCNT)` (R177 item 3). -/
def placeBit (acc : Byte) (i : BitVec 3) (d : Bool) : Byte :=
  acc ||| ((BitVec.ofBool d).setWidth 8 <<< i.toNat)

/-- `BITCNT == 7`, the test that ends the two counted loops (R177 item 6, R178 item 4). -/
def lastBit (i : BitVec 3) : Bool := i == 7

end Sys2Proof.Machine
end

