-- ==== Sys2Proof/Machine/Ops.lean ====
section
/-! DEFINITION. The named operations every command is built from: the inputs of a cycle, the wires (spec 20_memory.md R50, R51),
the five line micro-operations (44_line_primitives.md R170 to R174), command acceptance (10_state.md R37) and reset
(70_reset_and_hazards.md R220). An operation computes register values only; `State.endCycle` ends the cycle.

There is no trap entry and no return from one to write here (60_exceptions.md R197, R198): `State.flagIf` of Flags.lean is all
that detecting an anomaly does. -/

namespace Sys2Proof.Machine

/-! ### The inputs of a cycle -/

/-- What the host drives in this cycle. -/
def Env.hostNow (e : Env) : HostIn :=
  match e.host with
  | h :: _ => h
  | [] => HostIn.quiet

/-- `P_L` in this cycle: the listed pull, or a free value (R51). -/
def Env.pull (e : Env) (l : Line) : Bool :=
  match e.pulls, l with
  | p :: _, .clk => p.clk
  | p :: _, .dat => p.dat
  | [], .clk => Config.freePullClk e.tick
  | [], .dat => Config.freePullDat e.tick

/-- The inputs from the next cycle on. -/
def Env.advance (e : Env) : Env :=
  match e.pulls with
  | _ :: later => ⟨e.host.tail, later, e.tick⟩
  | [] => ⟨e.host.tail, [], e.tick + 1⟩

/-- The active clock edge: this cycle's inputs are past. The register values an operation computed from the values at the start
of the cycle hold from here on (R7). -/
def State.endCycle (s : State) : State := { s with env := s.env.advance }

/-! ### The wires -/

/-- `E_L` of a driver cell: it pulls its line low iff it is in `OUT` mode with latch 0 (R50). -/
def Cell.pulls (c : Cell) : Bool := c.mode == .out && !c.latch

/-- The driver cell of a line. -/
def State.cell (s : State) : Line → Cell
  | .clk => s.clkCell
  | .dat => s.datCell

/-- Give a line's driver cell new register values. -/
def State.setCell (s : State) (l : Line) (c : Cell) : State :=
  match l with
  | .clk => { s with clkCell := c }
  | .dat => { s with datCell := c }

/-- `E_L`, the engine's pull on a line in this cycle (R50). -/
def State.enginePull (s : State) (l : Line) : Bool := (s.cell l).pulls

/-- The wired-AND of an open-drain line with a pull-up: low iff somebody pulls (R51). -/
def resolve (enginePull peripheralPull : Bool) : Bool := !(enginePull || peripheralPull)

/-- `level(L)` in this cycle (R51). -/
def State.level (s : State) (l : Line) : Bool := resolve (s.enginePull l) (s.env.pull l)

/-! ### The line micro-operations -/

/-- `SEQ <- q`, this hardware's `pc <- target` (R7). -/
def State.goto (s : State) (q : SeqState) : State := { s with seq := q }

/-- The cell that `PinMode(L, m)` leaves: `OUT` keeps the latch, `IN_PULLUP` sets it to 1 (R170). -/
def Cell.withMode (c : Cell) : PadMode → Cell
  | .out => { c with mode := .out }
  | .inPullup => Cell.released

/-- PINMODE, `PinMode(L, m)` (R170). -/
def State.pinMode (s : State) (l : Line) (m : PadMode) : State := s.setCell l ((s.cell l).withMode m)

/-- PINWRITE, `PinWrite(L, v)`: the latch takes `v`, the mode stays (R171). -/
def State.pinWrite (s : State) (l : Line) (v : Bool) : State := s.setCell l { s.cell l with latch := v }

/-- PINREAD, `PinRead(L)`: the level of the line in this cycle, whatever the cell's mode (R172, 20_memory.md R66). -/
def State.pinRead (s : State) (l : Line) : Bool := s.level l

/-- DELAY, the counting half of `Delay(n)` (R173): stay while `DLY` counts down to 0, then go on to `next` (R124). -/
def State.delay (s : State) (next : SeqState) : State :=
  if s.dly == 0 then s.goto next else { s with dly := s.dly - 1 }

/-- WAITPIN, `WaitPin(L, v)` with an effect on success: if the line has the awaited level, `success`; else the state names
itself and nothing changes (R174). -/
def State.waitPinThen (s : State) (l : Line) (v : Bool) (success : State → State) : State :=
  if s.pinRead l == v then success s else s

/-- WAITPIN with the successor `next` and no effect of its own (R174). -/
def State.waitPin (s : State) (l : Line) (v : Bool) (next : SeqState) : State :=
  s.waitPinThen l v (fun t => t.goto next)

/-! ### Command acceptance, refusals, reset -/

/-- The register effect of accepting a command: `OP`, `OPA`, `OPB` take its word's fields, STATUS is cleared and `SEQ` names
the command's first state (R37). -/
def State.accept (s : State) (op : BitVec 2) (a b : Byte) (first : SeqState) : State :=
  { s with op := op, opa := a, opb := b, status := 0b000, seq := first }

/-- Why the model refuses a command that uses the lines: no CONFIG has completed (R113), both lines are bound to one identifier,
or an identifier is outside `VALID_PINS` (R112). -/
def State.bindingRefusal (s : State) : Option Refusal :=
  if !s.configured then some .notConfigured
  else if s.clkPin == s.datPin then some .samePin
  else if !(s.params.validPins.has s.clkPin && s.params.validPins.has s.datPin) then some .invalidPin
  else none

/-- Why the model refuses a command that also uses the inhibit hold: the parameters are outside the spec (R228, U14). -/
def State.sendingRefusal (s : State) : Option Refusal :=
  match s.bindingRefusal with
  | some r => some r
  | none => if s.params.lawful then none else some .unlawfulParameters

/-- A cycle with `rst` = 1: every register takes its reset value and the ghost becomes false, whatever the state and the command
port (R220). The parameters are not registers; the inputs of the cycle are used up. -/
def State.resetCycle (s : State) : State :=
  { State.reset with params := s.params, env := s.env.advance }

/-! ### The sequencer states' numbers -/

/-- The 6-bit value of `SEQ` (R26). -/
def SeqState.code : SeqState → BitVec 6
  | .idle => 0 | .cfgStore => 1
  | .txParity => 2 | .txOutClk => 3 | .txOutDat => 4 | .txInhibit => 5 | .txHold => 6 | .txStart => 7 | .txRelClk => 8
  | .txWaitDev => 9 | .txBitDrive => 10 | .txBitWh => 11 | .txBitWl => 12 | .txParDrive => 13 | .txParWh => 14
  | .txParWl => 15 | .txRelDat => 16 | .txAckDat => 17 | .txAckClk => 18 | .txIdleDat => 19 | .txIdleClk => 20
  | .rxWaitStart => 21 | .rxStart => 22 | .rxBitWh => 23 | .rxBitWl => 24 | .rxBitSample => 25 | .rxParWh => 26
  | .rxParWl => 27 | .rxParSample => 28 | .rxStopWh => 29 | .rxStopWl => 30 | .rxStopSample => 31 | .rxEndWh => 32
  | .rxDone => 33 | .ackCheck => 34

end Sys2Proof.Machine
end

