-- ==== Sys2Proof/Machine/Receive.lean ====
section
/-! DEFINITION. The RECV micro-program, one definition a sequencer state (spec 42_receive.md R141 to R147, table R151). SENDCMD
runs it too (43_send_command.md R160). No anomaly changes a successor (R148). -/

namespace Sys2Proof.Machine

/-- RX_WAIT_START (R141): `WaitPin(CLK, 0)`. -/
def rxWaitStart (s : State) : State := s.waitPin .clk false .rxStart

/-- RX_START (R142): sample the start bit, which should be 0; clear the accumulator and the bit count. -/
def rxStart (s : State) : State :=
  { s with acc := 0x00, bitCnt := 0, seq := .rxBitWh }.flagIf (s.pinRead .dat != false) .fe

/-- RX_BIT_WH (R143): `WaitPin(CLK, 1)`. -/
def rxBitWh (s : State) : State := s.waitPin .clk true .rxBitWl

/-- RX_BIT_WL (R143): `WaitPin(CLK, 0)`. -/
def rxBitWl (s : State) : State := s.waitPin .clk false .rxBitSample

/-- RX_BIT_SAMPLE (R143): OR the sampled bit into position `BITCNT`, then the next bit, or the parity bit after bit 7. -/
def rxBitSample (s : State) : State :=
  let sampled := { s with acc := placeBit s.acc s.bitCnt (s.pinRead .dat) }
  if lastBit s.bitCnt then sampled.goto .rxParWh else { sampled with bitCnt := s.bitCnt + 1, seq := .rxBitWh }

/-- RX_PAR_WH (R144): `WaitPin(CLK, 1)`. -/
def rxParWh (s : State) : State := s.waitPin .clk true .rxParWl

/-- RX_PAR_WL (R144): `WaitPin(CLK, 0)`. -/
def rxParWl (s : State) : State := s.waitPin .clk false .rxParSample

/-- RX_PAR_SAMPLE (R144): sample the parity bit, which should be `PARITY[ACC]`. -/
def rxParSample (s : State) : State :=
  (s.goto .rxStopWh).flagIf (s.pinRead .dat != parity s.acc) .pe

/-- RX_STOP_WH (R145): `WaitPin(CLK, 1)`. -/
def rxStopWh (s : State) : State := s.waitPin .clk true .rxStopWl

/-- RX_STOP_WL (R145): `WaitPin(CLK, 0)`. -/
def rxStopWl (s : State) : State := s.waitPin .clk false .rxStopSample

/-- RX_STOP_SAMPLE (R145): sample the stop bit, which should be 1. -/
def rxStopSample (s : State) : State :=
  (s.goto .rxEndWh).flagIf (s.pinRead .dat != true) .fe

/-- RX_END_WH (R146): `WaitPin(CLK, 1)`. -/
def rxEndWh (s : State) : State := s.waitPin .clk true .rxDone

/-- RX_DONE (R147): publish the byte whatever flags are set, then the check of a SENDCMD (`OP == 3`), or the end. -/
def rxDone (s : State) : State :=
  { s with rxData := s.acc, seq := if s.op == 3 then .ackCheck else .idle }

end Sys2Proof.Machine
end

