-- ==== Sys2Proof/Machine/Transmit.lean ====
section
/-! DEFINITION. The SEND micro-program, one definition a sequencer state (spec 41_send.md R121 to R132, table R137). Each gives
the register values from the next cycle on, computed from those of this cycle. SENDCMD runs it too (43_send_command.md R160). -/

namespace Sys2Proof.Machine

/-- TX_PARITY (R121): look up the parity bit, clear the bit count. -/
def txParity (s : State) : State := { s with par := parity s.opa, bitCnt := 0, seq := .txOutClk }

/-- TX_OUT_CLK (R122): `PinMode(CLK, OUT)`. -/
def txOutClk (s : State) : State := (s.pinMode .clk .out).goto .txOutDat

/-- TX_OUT_DAT (R122): `PinMode(DAT, OUT)`. -/
def txOutDat (s : State) : State := (s.pinMode .dat .out).goto .txInhibit

/-- TX_INHIBIT (R123): `PinWrite(CLK, 0)` and load the delay counter with `INHIBIT_CYCLES - 1`. -/
def txInhibit (s : State) : State :=
  { (s.pinWrite .clk false).goto .txHold with dly := s.params.inhibitCycles - 1 }

/-- TX_HOLD (R124): `Delay(INHIBIT_US)`. -/
def txHold (s : State) : State := s.delay .txStart

/-- TX_START (R125): `PinWrite(DAT, 0)`, the start bit. -/
def txStart (s : State) : State := (s.pinWrite .dat false).goto .txRelClk

/-- TX_REL_CLK (R126): `PinMode(CLK, IN_PULLUP)`. -/
def txRelClk (s : State) : State := (s.pinMode .clk .inPullup).goto .txWaitDev

/-- TX_WAIT_DEV (R127): `WaitPin(CLK, 0)`. -/
def txWaitDev (s : State) : State := s.waitPin .clk false .txBitDrive

/-- TX_BIT_DRIVE (R128): `PinWrite(DAT, OPA[BITCNT])`. -/
def txBitDrive (s : State) : State := (s.pinWrite .dat (selectBit s.opa s.bitCnt)).goto .txBitWh

/-- TX_BIT_WH (R128): `WaitPin(CLK, 1)`. -/
def txBitWh (s : State) : State := s.waitPin .clk true .txBitWl

/-- TX_BIT_WL (R128): `WaitPin(CLK, 0)`, then the next bit, or the parity bit after bit 7. -/
def txBitWl (s : State) : State :=
  s.waitPinThen .clk false fun t =>
    if lastBit t.bitCnt then t.goto .txParDrive else { t with bitCnt := t.bitCnt + 1, seq := .txBitDrive }

/-- TX_PAR_DRIVE (R129): `PinWrite(DAT, PAR)`. -/
def txParDrive (s : State) : State := (s.pinWrite .dat s.par).goto .txParWh

/-- TX_PAR_WH (R129): `WaitPin(CLK, 1)`. -/
def txParWh (s : State) : State := s.waitPin .clk true .txParWl

/-- TX_PAR_WL (R129): `WaitPin(CLK, 0)`. -/
def txParWl (s : State) : State := s.waitPin .clk false .txRelDat

/-- TX_REL_DAT (R130): `PinMode(DAT, IN_PULLUP)`, the stop bit. -/
def txRelDat (s : State) : State := (s.pinMode .dat .inPullup).goto .txAckDat

/-- TX_ACK_DAT (R131): `WaitPin(DAT, 0)`. -/
def txAckDat (s : State) : State := s.waitPin .dat false .txAckClk

/-- TX_ACK_CLK (R131): `WaitPin(CLK, 0)`. -/
def txAckClk (s : State) : State := s.waitPin .clk false .txIdleDat

/-- TX_IDLE_DAT (R132): `WaitPin(DAT, 1)`. -/
def txIdleDat (s : State) : State := s.waitPin .dat true .txIdleClk

/-- TX_IDLE_CLK (R132): `WaitPin(CLK, 1)`, then the receive half of a SENDCMD (`OP == 3`), or the end. -/
def txIdleClk (s : State) : State :=
  s.waitPin .clk true (if s.op == 3 then .rxWaitStart else .idle)

end Sys2Proof.Machine
end

