-- ==== Sys2Proof/Machine/Sequencer.lean ====
section
/-! DEFINITION. The sequencer: one cycle of the state `SEQ` names (spec 10_state.md R26, R46), with the one state of CONFIG
(40_configure.md R110) and the last of SENDCMD (43_send_command.md R161). -/

namespace Sys2Proof.Machine

/-- CFG_STORE (R110): store the two identifiers; from then on the engine is configured (R113). No cell is touched (R111). -/
def cfgStore (s : State) : State :=
  { s with clkPin := s.opa, datPin := s.opb, configured := true, seq := .idle }

/-- ACK_CHECK (R161): compare the response with `ACK`, and nothing else. -/
def ackCheck (s : State) : State := (s.goto .idle).flagIf (s.rxData != s.params.ack) .am

/-- The action and the next state of the current sequencer state. They depend on `SEQ` alone and not on which command `OP`
names, but where a rule tests `OP` (R178; notes/assumptions/16.md). In `IDLE` nothing changes (R37). -/
def microStep (s : State) : State :=
  match s.seq with
  | .idle => s
  | .cfgStore => cfgStore s
  | .txParity => txParity s
  | .txOutClk => txOutClk s
  | .txOutDat => txOutDat s
  | .txInhibit => txInhibit s
  | .txHold => txHold s
  | .txStart => txStart s
  | .txRelClk => txRelClk s
  | .txWaitDev => txWaitDev s
  | .txBitDrive => txBitDrive s
  | .txBitWh => txBitWh s
  | .txBitWl => txBitWl s
  | .txParDrive => txParDrive s
  | .txParWh => txParWh s
  | .txParWl => txParWl s
  | .txRelDat => txRelDat s
  | .txAckDat => txAckDat s
  | .txAckClk => txAckClk s
  | .txIdleDat => txIdleDat s
  | .txIdleClk => txIdleClk s
  | .rxWaitStart => rxWaitStart s
  | .rxStart => rxStart s
  | .rxBitWh => rxBitWh s
  | .rxBitWl => rxBitWl s
  | .rxBitSample => rxBitSample s
  | .rxParWh => rxParWh s
  | .rxParWl => rxParWl s
  | .rxParSample => rxParSample s
  | .rxStopWh => rxStopWh s
  | .rxStopWl => rxStopWl s
  | .rxStopSample => rxStopSample s
  | .rxEndWh => rxEndWh s
  | .rxDone => rxDone s
  | .ackCheck => ackCheck s

/-- One cycle in which no command is accepted: the current state's action, then the clock edge (R46). -/
def State.runCycle (s : State) : State := (microStep s).endCycle

end Sys2Proof.Machine
end

