-- ==== Sys2Proof/Machine/Commands.lean ====
section
/-! DEFINITION. The meanings of the four commands: ONE CYCLE in which the host presents the command on its port, with `rst` = 0
(spec 10_state.md R36, R37). If the engine is idle, the command is accepted, or refused where the spec has the model refuse it;
its micro-program (40_configure.md R110, 41_send.md R137, 42_receive.md R151, 43_send_command.md R160) then runs one state a
cycle. If the engine is busy, what is presented is ignored and the command in progress goes on (R37). -/

namespace Sys2Proof.Machine

/-- A cycle in which a command is presented (R37): `refusal` is the model's reason not to run it, `accepted` the registers it
leaves when accepted. -/
def State.present (s : State) (refusal : Option Refusal) (accepted : State) : Host.Outcome State Fault Refusal :=
  if s.seq = .idle then
    match refusal with
    | some r => .refused r
    | none => .next accepted.endCycle
  else .next s.runCycle

/-- CONFIG (R110, R112): never refused; goes to CFG_STORE. -/
def execConfig (clk dat : PinId) (s : State) : Host.Outcome State Fault Refusal :=
  s.present none (s.accept 0 clk dat .cfgStore)

/-- SEND (R120): goes to TX_PARITY. -/
def execSend (v b : Byte) (s : State) : Host.Outcome State Fault Refusal :=
  s.present s.sendingRefusal (s.accept 1 v b .txParity)

/-- RECV (R140): goes to RX_WAIT_START. -/
def execRecv (a b : Byte) (s : State) : Host.Outcome State Fault Refusal :=
  s.present s.bindingRefusal (s.accept 2 a b .rxWaitStart)

/-- SENDCMD (R160): goes to TX_PARITY; `OP == 3` adds the receive half and the check. -/
def execSendcmd (c b : Byte) (s : State) : Host.Outcome State Fault Refusal :=
  s.present s.sendingRefusal (s.accept 3 c b .txParity)

end Sys2Proof.Machine
end

