-- ==== Sys2Proof/Machine/Dispatch.lean ====
section
/-! DEFINITION. Which meaning each command has (spec 30_encoding.md R82). `exec i s` is the cycle in which the host presents the
command `i` to the engine in the state `s`, with `rst` = 0. -/

namespace Sys2Proof.Machine

def exec (i : Instr) (s : State) : Host.Outcome State Fault Refusal :=
  match i with
  | .config clk dat => Sys2Proof.Machine.execConfig clk dat s
  | .send v b => Sys2Proof.Machine.execSend v b s
  | .recv a b => Sys2Proof.Machine.execRecv a b s
  | .sendcmd c b => Sys2Proof.Machine.execSendcmd c b s

end Sys2Proof.Machine
end

