-- ==== Sys2Proof/Machine/Placement.lean ====
section
/-! DEFINITION. How a command word is placed at the command port of a state for the next step to take, which is the host's doing
and no part of the engine (notes/assumptions/8.md). -/

namespace Sys2Proof.Machine

/-- The state with the command word `w` presented on the port in the coming cycle, `rst` = 0 (R36, R37). -/
def State.presenting (s : State) (w : CmdWord) : State :=
  { s with env := { s.env with host := ⟨false, true, w⟩ :: s.env.host.tail } }

/-- The state with the engine between two commands, where it can accept one (R37) and both cells are released (R44). An idle
engine is left as it is. -/
def State.betweenCommands (s : State) : State :=
  if s.seq = .idle then s else { s with seq := .idle, clkCell := Cell.released, datCell := Cell.released }

/-- The state with a binding that lets the model run a command on the lines (R113, R223): its own, or else that of the test
vectors' `CONFIG 5, 6`. -/
def State.withBinding (s : State) : State :=
  if s.bindingRefusal = none then s else { s with clkPin := 0x05, datPin := 0x06, configured := true }

/-- All that it takes for the next step to run the command word `w`: the engine idle, the word presented and, for a command
that uses the lines, the CONFIG it must come after. -/
def State.place (s : State) (w : CmdWord) : State :=
  let ready := s.betweenCommands.presenting w
  match decode w with
  | .config _ _ => ready
  | .send _ _ => ready.withBinding
  | .recv _ _ => ready.withBinding
  | .sendcmd _ _ => ready.withBinding

end Sys2Proof.Machine
end

