-- ==== Sys2Proof/Machine/Step.lean ====
section
/-! DEFINITION. One clock cycle of the machine (spec 00_scope.md R9; 10_state.md R37, R46; 70_reset_and_hazards.md R220). -/

namespace Sys2Proof.Machine

/-- One cycle: reset has priority over everything (R220); else a presented command word is decoded and its meaning run, which
ignores it while the engine is busy (R37); else the current sequencer state acts (R46). -/
def step (s : State) : Host.Outcome State Fault Refusal :=
  if s.env.hostNow.rst then .next s.resetCycle
  else if s.env.hostNow.cmdValid then exec (decode s.env.hostNow.cmd) s
  else .next s.runCycle

/-- The state whose next step takes the table's word `w` of `nbits` bits from the command port; the port has 18 wires, so the
bits above them are not there (notes/assumptions/8.md, 17.md). -/
def State.withFetchWord (s : State) (nbits w : Nat) : State := s.place (BitVec.ofNat 18 (w % 2 ^ nbits))

end Sys2Proof.Machine
end

