-- ==== Sys2Proof/Machine/Protocol.lean ====
section
/-! DEFINITION. The wire contract: the cells of a frame (spec 30_encoding.md R86 to R88) and the constants a host puts in operand
`a` or compares `RXDATA` with (R89 to R92). Of the constants the engine itself uses `ACK` alone (R90), as `Params.ack`. -/

namespace Sys2Proof.Machine

/-- The eight data cells of a byte, bit 0 first (R86, R87; 20_memory.md R54). -/
def dataCells (v : Byte) : List Bool := (List.range 8).map v.getLsbD

/-- The eleven cells of a byte's frame, in both directions: start 0, d0 to d7, the odd-parity bit, stop 1 (R86, R87, R88). -/
def frameCells (v : Byte) : List Bool := false :: dataCells v ++ [parity v, true]

/-- The symbols of R89 (host to peripheral) and R90 (peripheral to host). -/
inductive Symbol where
  | reset | enableReporting | setSampleRate | setRemoteMode | setWrapMode | resetWrapMode | readData | setResolution
  | ack | batOk
  deriving DecidableEq, Repr

/-- The byte of a symbol (R89, R90). -/
def Symbol.byte : Symbol → Byte
  | .reset => 0xFF
  | .enableReporting => 0xF4
  | .setSampleRate => 0xF3
  | .setRemoteMode => 0xF0
  | .setWrapMode => 0xEE
  | .resetWrapMode => 0xEC
  | .readData => 0xEB
  | .setResolution => 0xE8
  | .ack => 0xFA
  | .batOk => 0xAA

/-- The movement and button bits of a received data byte (R91). -/
inductive MouseBit where
  | ySign | xSign | middleButton | rightButton | leftButton
  deriving DecidableEq, Repr

/-- Which bit of the byte carries it (R91). -/
def MouseBit.index : MouseBit → Nat
  | .ySign => 5
  | .xSign => 4
  | .middleButton => 2
  | .rightButton => 1
  | .leftButton => 0

/-- Read a movement or button bit of a received data byte; the engine never does (R91). -/
def MouseBit.isSet (m : MouseBit) (received : Byte) : Bool := received.getLsbD m.index

/-- Counts per millimetre of the resolution codes 0 to 3, the arguments that go with `SET_RESOLUTION` (R92). -/
def countsPerMm (code : Fin 4) : Nat := 2 ^ code.val

end Sys2Proof.Machine
end

