-- ==== Sys2Proof/Machine/Assembler.lean ====
section
/-! DEFINITION. The textual form of a command (spec 30_encoding.md R85): its operands, the word it stands for, and reading one
line of text. Spacing and the treatment of a line that holds no command are DESIGN CHOICEs (notes/assumptions/18.md). -/

namespace Sys2Proof.Machine

/-- An operand as written: an unsigned integer, or a symbol of R89 and R90 (R85). -/
inductive AsmOperand where
  | number (n : Nat)
  | symbol (x : Symbol)
  deriving DecidableEq, Repr

/-- The byte an operand stands for: "unsigned integers 0 to 255" (R85). -/
def AsmOperand.byte? : AsmOperand → Option Byte
  | .number n => if n < 256 then some (BitVec.ofNat 8 n) else none
  | .symbol x => some x.byte

/-- A line of assembly, one command (R85). -/
inductive AsmLine where
  | config (clk dat : AsmOperand)
  | send (v : AsmOperand)
  | recv
  | sendcmd (c : AsmOperand)
  deriving DecidableEq, Repr

/-- The command of a line, the operand bits it does not use written as 0 (R83, R85); none if an operand is above 255. -/
def AsmLine.instr? : AsmLine → Option Instr
  | .config clk dat =>
    match clk.byte?, dat.byte? with
    | some c, some d => some (.config c d)
    | _, _ => none
  | .send v => v.byte?.map (fun x => .send x 0x00)
  | .recv => some (.recv 0x00 0x00)
  | .sendcmd c => c.byte?.map (fun x => .sendcmd x 0x00)

/-- The word of a line, as the table of R85 gives it. -/
def AsmLine.word? (l : AsmLine) : Option CmdWord := l.instr?.map encode

/-! ### Reading a line of text -/

/-- What stands before the comment that `;` starts (R85). -/
def stripComment (text : List Char) : List Char := text.takeWhile (fun c => c != ';')

/-- Cut a line into words at blanks; a comma is a word of its own. `word` holds the letters of the word being read, last first. -/
def words (word : List Char) : List Char → List (List Char)
  | [] => if word.isEmpty then [] else [word.reverse]
  | c :: rest =>
    let before := if word.isEmpty then [] else [word.reverse]
    if c == ' ' || c == '\t' then before ++ words [] rest
    else if c == ',' then before ++ [[',']] ++ words [] rest
    else words (c :: word) rest

/-- The value of a digit in base 10 or 16. -/
def digit? (base : Nat) (c : Char) : Option Nat :=
  let d :=
    if '0' ≤ c && c ≤ '9' then c.toNat - '0'.toNat
    else if 'a' ≤ c && c ≤ 'f' then c.toNat - 'a'.toNat + 10
    else if 'A' ≤ c && c ≤ 'F' then c.toNat - 'A'.toNat + 10
    else base
  if d < base then some d else none

/-- The number that a word of digits writes; `acc` is the value of the digits read. -/
def digits? (base acc : Nat) : List Char → Option Nat
  | [] => some acc
  | c :: rest =>
    match digit? base c with
    | some d => digits? base (acc * base + d) rest
    | none => none

/-- A decimal or `0x` hexadecimal integer (R85). -/
def number? : List Char → Option Nat
  | [] => none
  | '0' :: 'x' :: [] => none
  | '0' :: 'x' :: rest => digits? 16 0 rest
  | ds => digits? 10 0 ds

/-- The spelling of a symbol (R89, R90). -/
def Symbol.spelling : Symbol → List Char
  | .reset => ['R', 'E', 'S', 'E', 'T']
  | .enableReporting => ['E', 'N', 'A', 'B', 'L', 'E', '_', 'R', 'E', 'P', 'O', 'R', 'T', 'I', 'N', 'G']
  | .setSampleRate => ['S', 'E', 'T', '_', 'S', 'A', 'M', 'P', 'L', 'E', '_', 'R', 'A', 'T', 'E']
  | .setRemoteMode => ['S', 'E', 'T', '_', 'R', 'E', 'M', 'O', 'T', 'E', '_', 'M', 'O', 'D', 'E']
  | .setWrapMode => ['S', 'E', 'T', '_', 'W', 'R', 'A', 'P', '_', 'M', 'O', 'D', 'E']
  | .resetWrapMode => ['R', 'E', 'S', 'E', 'T', '_', 'W', 'R', 'A', 'P', '_', 'M', 'O', 'D', 'E']
  | .readData => ['R', 'E', 'A', 'D', '_', 'D', 'A', 'T', 'A']
  | .setResolution => ['S', 'E', 'T', '_', 'R', 'E', 'S', 'O', 'L', 'U', 'T', 'I', 'O', 'N']
  | .ack => ['A', 'C', 'K']
  | .batOk => ['B', 'A', 'T', '_', 'O', 'K']

/-- The symbols, in the order of R89 and R90. -/
def symbols : List Symbol :=
  [.reset, .enableReporting, .setSampleRate, .setRemoteMode, .setWrapMode, .resetWrapMode, .readData, .setResolution,
   .ack, .batOk]

/-- An operand: a symbol or a number (R85). -/
def operand? (word : List Char) : Option AsmOperand :=
  match symbols.find? (fun x => x.spelling == word) with
  | some x => some (.symbol x)
  | none => (number? word).map .number

/-- The command that the words of a line write (R85). -/
def parseWords : List (List Char) → Option AsmLine
  | [['C', 'O', 'N', 'F', 'I', 'G'], clk, [','], dat] =>
    match operand? clk, operand? dat with
    | some c, some d => some (.config c d)
    | _, _ => none
  | [['S', 'E', 'N', 'D'], v] => (operand? v).map .send
  | [['R', 'E', 'C', 'V']] => some .recv
  | [['S', 'E', 'N', 'D', 'C', 'M', 'D'], c] => (operand? c).map .sendcmd
  | _ => none

/-- Read one line of assembly text (R85); none if it is not a command in the form of R85. -/
def parseLine (text : List Char) : Option AsmLine := parseWords (words [] (stripComment text))

/-- The word of a line of text (R85). -/
def assemble (text : List Char) : Option CmdWord :=
  match parseLine text with
  | some l => l.word?
  | none => none

end Sys2Proof.Machine
end

