-- ==== Sys2Proof/Machine/Ports.lean ====
section
/-! DEFINITION. The engine's output ports, each a view of its registers (spec 10_state.md R36 to R41). Reading a port has no side
effect and clears nothing (R39), so a port is a function of the state. The inputs of R36, R40 and R42 are `HostIn` and `Pulls`:
`L_in` is `State.level`. -/

namespace Sys2Proof.Machine

/-- `cmd_ready` = (`SEQ == IDLE`) (R36). -/
def State.cmdReady (s : State) : Bool := s.seq == .idle

/-- `busy` = (`SEQ != IDLE`) (R38). -/
def State.busy (s : State) : Bool := s.seq != .idle

/-- `L_oe` = `MODE_L` (R40). -/
def State.padEnable (s : State) (l : Line) : Bool := (s.cell l).mode == .out

/-- `L_out` = `LATCH_L` (R40). -/
def State.padOut (s : State) (l : Line) : Bool := (s.cell l).latch

/-- What the engine drives on its ports in one cycle. -/
structure Outputs where
  /-- `cmd_ready` (R36). -/
  cmdReady : Bool
  /-- `busy` (R38). -/
  busy : Bool
  /-- `rxdata[7:0]` = `RXDATA` (R39). -/
  rxData : Byte
  /-- `status[2:0]` = `STATUS` (R39). -/
  status : BitVec 3
  /-- `clk_oe`, `clk_out` (R40). -/
  clkOe : Bool
  clkOut : Bool
  /-- `dat_oe`, `dat_out` (R40). -/
  datOe : Bool
  datOut : Bool
  /-- `clk_sel` = `CLKPIN`, `dat_sel` = `DATPIN` (R41). -/
  clkSel : PinId
  datSel : PinId
  deriving DecidableEq, Repr

/-- The output ports in the cycle whose state this is. -/
def State.outputs (s : State) : Outputs where
  cmdReady := s.cmdReady
  busy := s.busy
  rxData := s.rxData
  status := s.status
  clkOe := s.padEnable .clk
  clkOut := s.padOut .clk
  datOe := s.padEnable .dat
  datOut := s.padOut .dat
  clkSel := s.clkPin
  datSel := s.datPin

end Sys2Proof.Machine
end

