-- ==== Sys2Proof/Safety.lean ====
section
/-! DEFINITION. The terms in which claims about the machine are stated: runs, the sequencer's tables, the invariant of the engine,
and what the peripheral does while a command runs. Nothing here is part of the machine. -/

namespace Sys2Proof.Machine

/-! ### Runs -/

/-- `n` cycles of the machine, or the refusal that ends them. -/
def run : Nat → State → Host.Outcome State Fault Refusal
  | 0, s => .next s
  | n + 1, s =>
    match step s with
    | .next t => run n t
    | .fault r => .fault r
    | .refused r => .refused r

/-- The host asserts `rst` in none of the coming cycles. It may present any commands in them. -/
def Env.noReset (e : Env) : Prop := ∀ h ∈ e.host, h.rst = false

/-- Both driver cells are released, as they are whenever a command can be accepted (10_state.md R44). -/
def State.released (s : State) : Prop := s.clkCell = Cell.released ∧ s.datCell = Cell.released

/-! ### The sequencer's tables -/

/-- The line and level a wait state waits for; none for the other states (10_state.md R26: 17 wait states). -/
def SeqState.wait : SeqState → Option (Line × Bool)
  | .txWaitDev => some (.clk, false)
  | .txBitWh => some (.clk, true)
  | .txBitWl => some (.clk, false)
  | .txParWh => some (.clk, true)
  | .txParWl => some (.clk, false)
  | .txAckDat => some (.dat, false)
  | .txAckClk => some (.clk, false)
  | .txIdleDat => some (.dat, true)
  | .txIdleClk => some (.clk, true)
  | .rxWaitStart => some (.clk, false)
  | .rxBitWh => some (.clk, true)
  | .rxBitWl => some (.clk, false)
  | .rxParWh => some (.clk, true)
  | .rxParWl => some (.clk, false)
  | .rxStopWh => some (.clk, true)
  | .rxStopWl => some (.clk, false)
  | .rxEndWh => some (.clk, true)
  | .idle | .cfgStore | .txParity | .txOutClk | .txOutDat | .txInhibit | .txHold | .txStart | .txRelClk | .txBitDrive
  | .txParDrive | .txRelDat | .rxStart | .rxBitSample | .rxParSample | .rxStopSample | .rxDone | .ackCheck => none

/-- The states that can follow a busy state, itself left out (41_send.md R137, 42_receive.md R151, 44_line_primitives.md R178). -/
def SeqState.successors : SeqState → List SeqState
  | .idle => []
  | .cfgStore => [.idle]
  | .txParity => [.txOutClk]
  | .txOutClk => [.txOutDat]
  | .txOutDat => [.txInhibit]
  | .txInhibit => [.txHold]
  | .txHold => [.txStart]
  | .txStart => [.txRelClk]
  | .txRelClk => [.txWaitDev]
  | .txWaitDev => [.txBitDrive]
  | .txBitDrive => [.txBitWh]
  | .txBitWh => [.txBitWl]
  | .txBitWl => [.txBitDrive, .txParDrive]
  | .txParDrive => [.txParWh]
  | .txParWh => [.txParWl]
  | .txParWl => [.txRelDat]
  | .txRelDat => [.txAckDat]
  | .txAckDat => [.txAckClk]
  | .txAckClk => [.txIdleDat]
  | .txIdleDat => [.txIdleClk]
  | .txIdleClk => [.idle, .rxWaitStart]
  | .rxWaitStart => [.rxStart]
  | .rxStart => [.rxBitWh]
  | .rxBitWh => [.rxBitWl]
  | .rxBitWl => [.rxBitSample]
  | .rxBitSample => [.rxBitWh, .rxParWh]
  | .rxParWh => [.rxParWl]
  | .rxParWl => [.rxParSample]
  | .rxParSample => [.rxStopWh]
  | .rxStopWh => [.rxStopWl]
  | .rxStopWl => [.rxStopSample]
  | .rxStopSample => [.rxEndWh]
  | .rxEndWh => [.rxDone]
  | .rxDone => [.idle, .ackCheck]
  | .ackCheck => [.idle]

/-- Who may pull a line low (20_memory.md R61). -/
inductive Party where
  | engine | peripheral | nobody
  deriving DecidableEq, Repr

/-- The owner of a line in each phase, the table of R61. It lists neither TX_PARITY, before which and in which no line has moved,
nor ACK_CHECK, after the frame: nobody owns a line there. -/
def SeqState.owner (q : SeqState) (l : Line) : Party :=
  match q, l with
  | .idle, _ | .cfgStore, _ | .txParity, _ | .ackCheck, _ => .nobody
  | .txOutClk, _ | .txOutDat, _ | .txInhibit, _ | .txHold, _ | .txStart, _ | .txRelClk, _ => .engine
  | .txWaitDev, .clk | .txBitDrive, .clk | .txBitWh, .clk | .txBitWl, .clk | .txParDrive, .clk | .txParWh, .clk
  | .txParWl, .clk => .peripheral
  | .txWaitDev, .dat | .txBitDrive, .dat | .txBitWh, .dat | .txBitWl, .dat | .txParDrive, .dat | .txParWh, .dat
  | .txParWl, .dat => .engine
  | .txRelDat, _ | .txAckDat, _ | .txAckClk, _ | .txIdleDat, _ | .txIdleClk, _ => .peripheral
  | .rxWaitStart, _ | .rxStart, _ | .rxBitWh, _ | .rxBitWl, _ | .rxBitSample, _ | .rxParWh, _ | .rxParWl, _
  | .rxParSample, _ | .rxStopWh, _ | .rxStopWl, _ | .rxStopSample, _ | .rxEndWh, _ | .rxDone, _ => .peripheral

/-! ### The invariant of the engine -/

/-- The values `OP` can have in a sequencer state: the command that has the state in its micro-program (10_state.md R26). -/
def SeqState.ops : SeqState → List (BitVec 2)
  | .idle => [0, 1, 2, 3]
  | .cfgStore => [0]
  | .txParity | .txOutClk | .txOutDat | .txInhibit | .txHold | .txStart | .txRelClk | .txWaitDev | .txBitDrive | .txBitWh
  | .txBitWl | .txParDrive | .txParWh | .txParWl | .txRelDat | .txAckDat | .txAckClk | .txIdleDat | .txIdleClk => [1, 3]
  | .rxWaitStart | .rxStart | .rxBitWh | .rxBitWl | .rxBitSample | .rxParWh | .rxParWl | .rxParSample | .rxStopWh
  | .rxStopWl | .rxStopSample | .rxEndWh | .rxDone => [2, 3]
  | .ackCheck => [3]

/-- What the clock cell holds in a sequencer state (R44; 41_send.md R122 to R126). -/
def SeqState.clkCell : SeqState → Cell
  | .txOutDat | .txInhibit => ⟨.out, true⟩
  | .txHold | .txStart | .txRelClk => ⟨.out, false⟩
  | .idle | .cfgStore | .txParity | .txOutClk | .txWaitDev | .txBitDrive | .txBitWh | .txBitWl | .txParDrive | .txParWh
  | .txParWl | .txRelDat | .txAckDat | .txAckClk | .txIdleDat | .txIdleClk | .rxWaitStart | .rxStart | .rxBitWh | .rxBitWl
  | .rxBitSample | .rxParWh | .rxParWl | .rxParSample | .rxStopWh | .rxStopWl | .rxStopSample | .rxEndWh | .rxDone
  | .ackCheck => Cell.released

/-- What the data cell must hold: the start bit, then data bit `BITCNT`, then the parity bit, each until the next one is driven
(R44; 41_send.md R122, R125, R128 to R130). -/
def State.expectedDatCell (s : State) : Cell :=
  match s.seq with
  | .txInhibit | .txHold | .txStart => ⟨.out, true⟩
  | .txRelClk | .txWaitDev => ⟨.out, false⟩
  | .txBitDrive => ⟨.out, if s.bitCnt == 0 then false else selectBit s.opa (s.bitCnt - 1)⟩
  | .txBitWh | .txBitWl | .txParDrive => ⟨.out, selectBit s.opa s.bitCnt⟩
  | .txParWh | .txParWl | .txRelDat => ⟨.out, s.par⟩
  | .idle | .cfgStore | .txParity | .txOutClk | .txOutDat | .txAckDat | .txAckClk | .txIdleDat | .txIdleClk | .rxWaitStart
  | .rxStart | .rxBitWh | .rxBitWl | .rxBitSample | .rxParWh | .rxParWl | .rxParSample | .rxStopWh | .rxStopWl
  | .rxStopSample | .rxEndWh | .rxDone | .ackCheck => Cell.released

/-- Both cells hold what the micro-program puts in them. -/
def State.cellsOk (s : State) : Bool := s.clkCell == s.seq.clkCell && s.datCell == s.expectedDatCell

/-- `OP` names a command whose micro-program has the current state. -/
def State.opOk (s : State) : Bool := s.seq.ops.contains s.op

/-- `DLY` is 0 outside TX_HOLD and at most `INHIBIT_CYCLES - 1` in it (41_send.md R123, R124). -/
def State.dlyOk (s : State) : Bool :=
  match s.seq with
  | .txHold => decide (s.dly ≤ s.params.inhibitCycles - 1)
  | _ => s.dly == 0

/-- `BITCNT` is 0 from TX_PARITY to the first data bit, and 7 from the parity bit to the end of the command (10_state.md R33). -/
def State.bitCntOk (s : State) : Bool :=
  match s.seq with
  | .txOutClk | .txOutDat | .txInhibit | .txHold | .txStart | .txRelClk | .txWaitDev => s.bitCnt == 0
  | .txParDrive | .txParWh | .txParWl | .txRelDat | .txAckDat | .txAckClk | .txIdleDat | .txIdleClk | .rxParWh | .rxParWl
  | .rxParSample | .rxStopWh | .rxStopWl | .rxStopSample | .rxEndWh | .rxDone | .ackCheck => s.bitCnt == 7
  | .rxWaitStart | .rxStart => s.op == 2 || s.bitCnt == 7
  | .idle => s.op == 0 || s.bitCnt == 7
  | .cfgStore | .txParity | .txBitDrive | .txBitWh | .txBitWl | .rxBitWh | .rxBitWl | .rxBitSample => true

/-- `PAR` is the parity bit of `OPA` from TX_PARITY to the end of a SEND or SENDCMD, and until the next one is accepted
(10_state.md R29, 41_send.md R120). -/
def State.parOk (s : State) : Bool :=
  match s.seq with
  | .cfgStore | .txParity => true
  | _ => s.op == 0 || s.op == 2 || s.par == parity s.opa

/-- Which flags can be set where (10_state.md R31, 60_exceptions.md R190), and that after a SENDCMD `AM` says whether the
response was `ACK` (43_send_command.md R161). -/
def State.flagsOk (s : State) : Bool :=
  match s.seq with
  | .idle =>
    if s.op == 0 || s.op == 1 then s.status == 0
    else if s.op == 2 then !hasFlag .am s.status
    else hasFlag .am s.status == (s.rxData != s.params.ack)
  | .rxBitWh | .rxBitWl | .rxBitSample | .rxParWh | .rxParWl | .rxParSample =>
    !hasFlag .pe s.status && !hasFlag .am s.status
  | .rxStopWh | .rxStopWl | .rxStopSample | .rxEndWh | .rxDone | .ackCheck => !hasFlag .am s.status
  | .cfgStore | .txParity | .txOutClk | .txOutDat | .txInhibit | .txHold | .txStart | .txRelClk | .txWaitDev | .txBitDrive
  | .txBitWh | .txBitWl | .txParDrive | .txParWh | .txParWl | .txRelDat | .txAckDat | .txAckClk | .txIdleDat | .txIdleClk
  | .rxWaitStart | .rxStart => s.status == 0

/-- After RX_DONE, `RXDATA` is the byte in `ACC` (42_receive.md R147). -/
def State.rxDataOk (s : State) : Bool :=
  match s.seq with
  | .ackCheck => s.rxData == s.acc
  | .idle => s.op == 0 || s.op == 1 || s.rxData == s.acc
  | _ => true

/-- A command that uses the lines runs only with a binding and parameters the model does not refuse (40_configure.md R112, R113);
before the first CONFIG the pins are 0 (10_state.md R43). -/
def State.bindingOk (s : State) : Bool :=
  (s.configured || (s.clkPin == 0 && s.datPin == 0)) &&
    match s.seq with
    | .idle | .cfgStore => true
    | _ => if s.op == 2 then s.bindingRefusal == none else s.sendingRefusal == none

/-- The invariant of the engine. -/
abbrev State.Inv (s : State) : Prop :=
  s.cellsOk = true ∧ s.opOk = true ∧ s.dlyOk = true ∧ s.bitCntOk = true ∧ s.parOk = true ∧ s.flagsOk = true ∧
    s.rxDataOk = true ∧ s.bindingOk = true

/-! ### What the peripheral does while a command runs -/

/-- The peripheral's pull on a line. -/
def Pulls.pull (p : Pulls) : Line → Bool
  | .clk => p.clk
  | .dat => p.dat

/-- The level a line that the engine has released takes under the peripheral's pulls (20_memory.md R51). -/
def Pulls.level (p : Pulls) (l : Line) : Bool := resolve false (p.pull l)

/-- A stretch of cycles, as far as a command depends on it. -/
inductive Stretch where
  /-- `n` cycles in which no line is read: any pulls. -/
  | any (n : Nat)
  /-- One or more cycles, the last of which is the first in which the released line has the level: one wait (44_line_primitives.md R174). -/
  | await (l : Line) (level : Bool)
  /-- One cycle in which the released data line has the level: one sample. -/
  | sample (level : Bool)

/-- Whether the pulls of some cycles are such a stretch. -/
def Stretch.Fits : Stretch → List Pulls → Prop
  | .any n, ps => ps.length = n
  | .await l v, ps => ∃ before last, ps = before ++ [last] ∧ (∀ p ∈ before, p.level l ≠ v) ∧ last.level l = v
  | .sample v, ps => ∃ p, ps = [p] ∧ p.level .dat = v

/-- Whether the pulls of some cycles are these stretches one after the other. -/
def Fits : List Stretch → List Pulls → Prop
  | [], ps => ps = []
  | x :: xs, ps => ∃ first later, ps = first ++ later ∧ x.Fits first ∧ Fits xs later

/-- A clock pulse as the engine waits for it: high, then low. -/
def pulse : List Stretch := [.await .clk true, .await .clk false]

/-- The cycles of a SEND from TX_PARITY to TX_IDLE_CLK, with `INHIBIT_CYCLES` = `n` (41_send.md R137): six states and the hold,
the wait for the peripheral, nine driven bits with a clock pulse each, the release, and the four waits of the handshake. -/
def sendPlan (n : Nat) : List Stretch :=
  [.any (6 + n), .await .clk false] ++ (List.replicate 9 (.any 1 :: pulse)).flatten ++
    [.any 1, .await .dat false, .await .clk false, .await .dat true, .await .clk true]

/-- The cycles of a RECV from RX_WAIT_START to RX_DONE (42_receive.md R151), in which the peripheral presents the cells
`start`, the bits of `v` from bit 0, `par` and `stop`. -/
def recvPlan (start : Bool) (v : Byte) (par stop : Bool) : List Stretch :=
  [.await .clk false, .sample start] ++
    (dataCells v ++ [par, stop]).flatMap (fun cell => pulse ++ [.sample cell]) ++ [.await .clk true, .any 1]

/-- The cycles of a SENDCMD: the two halves, one after the other, and ACK_CHECK (43_send_command.md R160). -/
def sendcmdPlan (n : Nat) (start : Bool) (v : Byte) (par stop : Bool) : List Stretch :=
  sendPlan n ++ recvPlan start v par stop ++ [.any 1]

/-- STATUS after the reception of a frame with these cells: `FE` iff the start cell is 1 or the stop cell is 0, `PE` iff the
parity cell differs from the data's (42_receive.md R142, R144, R145; 60_exceptions.md R196). -/
def receptionStatus (start : Bool) (v : Byte) (par stop : Bool) : BitVec 3 :=
  (if start || !stop then 0b001 else 0b000) ||| (if par != parity v then 0b010 else 0b000)

/-- One bit cell as a peripheral presents it to a RECV that is not to miss it (70_reset_and_hazards.md R227): the clock high for
at least 2 cycles, then low for at least 2, and the data line at the cell's value in the first 2 of the low ones. -/
def ClockedCell (cell : Bool) (ps : List Pulls) : Prop :=
  ∃ high low, ps = high ++ low ∧ 2 ≤ high.length ∧ 2 ≤ low.length ∧ (∀ p ∈ high, p.clk = false) ∧ (∀ p ∈ low, p.clk = true) ∧
    (∀ p ∈ low.take 2, p.level .dat = cell)

/-- Bit cells presented one after the other. -/
def ClockedCells : List Bool → List Pulls → Prop
  | [], ps => ps = []
  | c :: cs, ps => ∃ first later, ps = first ++ later ∧ ClockedCell c first ∧ ClockedCells cs later

/-- The peripheral pulls nothing for `n` cycles. -/
def silence (n : Nat) : List Pulls := List.replicate n ⟨false, false⟩

/-- The peripheral pulls the clock low, and not the data line, for `n` cycles. -/
def clockLow (n : Nat) : List Pulls := List.replicate n ⟨true, false⟩

/-- Clock pulses of a peripheral that takes a SEND, each a low phase and a high phase of the given lengths. -/
def clockPulses (phases : List (Nat × Nat)) : List Pulls := phases.flatMap (fun p => clockLow p.1 ++ silence p.2)

/-- Phases long enough for a SEND (70_reset_and_hazards.md R227): low for at least 3 cycles, high for at least 2. -/
def longEnough (phases : List (Nat × Nat)) : Prop := ∀ p ∈ phases, 3 ≤ p.1 ∧ 2 ≤ p.2

end Sys2Proof.Machine
end

