-- ==== Sys2Proof/Certificates/Slice0/Obligations.lean ====
section
/-! DEFINITION. The statements about the model, each a `Prop`. Their docstrings name the rule of the spec they formalise; the
title, the text and the citations of each stand in OBLIGATIONS.json.

A statement about one cycle of a sequencer state has the hypotheses `rst` = 0 and `SEQ`, and gives the whole next state: every field
it does not name is as before, which is its frame. The statements about whole commands do the same for all their cycles. `env` is
the model's own field for the inputs to come; every cycle advances it. -/

open Sys2Proof Sys2Proof.Machine

/-! ### Encoding -/

/-- R80, R81, R83: no bit of a command word is dropped, in either direction. -/
def Obligations.DecodeAndEncodeAgree : Prop :=
  (∀ i : Instr, i.wellFormed = true → decode (encode i) = i) ∧ (∀ w : CmdWord, encode (decode w) = w)

/-- R82, R83: every word fits exactly one row of the opcode map, and it decodes to that row's command with its fields. -/
def Obligations.EveryWordFitsExactlyOneRow : Prop :=
  ∀ w : CmdWord, ∃ r ∈ opcodeRows, r.fits w = true ∧ decode w = r.build (fieldA w) (fieldB w) ∧
    ∀ r' ∈ opcodeRows, r'.fits w = true → r'.mnemonic = r.mnemonic

/-- R85 and the vectors V10, V11: words written out by the spec, each with its command. -/
def Obligations.WorkedWordsDecode : Prop :=
  decode 0x00506#18 = .config 5 6 ∧ decode 0x0FFFE#18 = .config 255 254 ∧
  decode 0x1F400#18 = .send 0xF4 0x00 ∧ decode 0x1F4FF#18 = .send 0xF4 0xFF ∧
  decode 0x20000#18 = .recv 0x00 0x00 ∧ decode 0x2ABCD#18 = .recv 0xAB 0xCD ∧
  decode 0x3FF00#18 = .sendcmd 0xFF 0x00 ∧ decode 0x3FFFF#18 = .sendcmd 0xFF 0xFF

/-- R85: a line the assembler takes gives a command with unused operand bits 0, and a word that decodes to it. -/
def Obligations.AssembledLinesDecode : Prop :=
  ∀ (l : AsmLine) (i : Instr), l.instr? = some i →
    i.assemblerForm = true ∧ l.word? = some (encode i) ∧ decode (encode i) = i

/-- R85: the four worked encodings, from their text. Spacing and case of the text are the model's reading (log entry 18). -/
def Obligations.WorkedTextAssembles : Prop :=
  assemble ['C', 'O', 'N', 'F', 'I', 'G', ' ', '5', ',', ' ', '6'] = some 0x00506#18 ∧
  assemble ['S', 'E', 'N', 'D', ' ', '0', 'x', 'F', '4'] = some 0x1F400#18 ∧
  assemble ['R', 'E', 'C', 'V', ' ', ';', ' ', 'w', 'a', 'i', 't'] = some 0x20000#18 ∧
  assemble ['S', 'E', 'N', 'D', 'C', 'M', 'D', ' ', 'R', 'E', 'S', 'E', 'T'] = some 0x3FF00#18

/-- R26: the 35 states have different numbers, all below 35. -/
def Obligations.SequencerNumbersDiffer : Prop :=
  (∀ q : SeqState, q.code.toNat < 35) ∧ (∀ q r : SeqState, q.code = r.code → q = r)

/-! ### A step, the command port, reset -/

/-- R37, R46: a cycle without reset runs the decoded command if one is presented, and the current sequencer state if not. -/
def Obligations.StepRunsThePresentedCommand : Prop :=
  ∀ s : State, s.env.hostNow.rst = false →
    (s.env.hostNow.cmdValid = true → step s = exec (decode s.env.hostNow.cmd) s) ∧
    (s.env.hostNow.cmdValid = false → step s = .next s.runCycle)

/-- Log entry 8 (the model's choice): a word placed at the port is decoded and run by the next step. -/
def Obligations.PlacedWordRuns : Prop :=
  ∀ (s : State) (nbits w : Nat), 18 ≤ nbits → w < 2 ^ 18 → s.seq = .idle → s.bindingRefusal = none →
    decodeTableWord nbits w = some (decode (BitVec.ofNat 18 w)) ∧
    s.withFetchWord nbits w = s.presenting (BitVec.ofNat 18 w) ∧
    step (s.withFetchWord nbits w) = exec (decode (BitVec.ofNat 18 w)) (s.withFetchWord nbits w)

/-- R220, R43: what a reset cycle leaves, in any state and whatever is presented. -/
def Obligations.ResetTakesEverything : Prop :=
  ∀ s : State, s.env.hostNow.rst = true → ∃ t, step s = .next t ∧
    t.seq = .idle ∧ t.op = 0 ∧ t.opa = 0x00 ∧ t.opb = 0x00 ∧ t.clkPin = 0x00 ∧ t.datPin = 0x00 ∧
    t.clkCell = ⟨.inPullup, true⟩ ∧ t.datCell = ⟨.inPullup, true⟩ ∧ t.par = false ∧ t.acc = 0x00 ∧ t.bitCnt = 0 ∧ t.dly = 0 ∧
    t.status = 0b000 ∧ t.rxData = 0x00 ∧ t.configured = false ∧ t.params = s.params ∧
    t.busy = false ∧ t.cmdReady = true ∧ t.enginePull .clk = false ∧ t.enginePull .dat = false ∧
    t = { State.reset with params := s.params, env := s.env.advance }

/-- R37: an idle engine takes the presented command's fields, clears STATUS and goes to the command's first state (SEND, RECV and
SENDCMD where the model does not refuse them, R112, R113, R228); an idle engine with no command changes nothing; a busy engine
ignores the port. -/
def Obligations.AcceptanceLatchesTheWord : Prop :=
  ∀ s : State,
    (s.seq = .idle →
      (∀ clk dat, exec (.config clk dat) s =
        .next { s with op := 0, opa := clk, opb := dat, status := 0b000, seq := .cfgStore, env := s.env.advance }) ∧
      (∀ v b, s.sendingRefusal = none → exec (.send v b) s =
        .next { s with op := 1, opa := v, opb := b, status := 0b000, seq := .txParity, env := s.env.advance }) ∧
      (∀ a b, s.bindingRefusal = none → exec (.recv a b) s =
        .next { s with op := 2, opa := a, opb := b, status := 0b000, seq := .rxWaitStart, env := s.env.advance }) ∧
      (∀ c b, s.sendingRefusal = none → exec (.sendcmd c b) s =
        .next { s with op := 3, opa := c, opb := b, status := 0b000, seq := .txParity, env := s.env.advance })) ∧
    (s.seq = .idle → s.env.hostNow.rst = false → s.env.hostNow.cmdValid = false →
      step s = .next { s with env := s.env.advance }) ∧
    (s.seq ≠ .idle → ∀ i j, exec i s = exec j s ∧ exec i s = .next s.runCycle)

/-- R112, R113: SEND, RECV and SENDCMD presented to an idle engine are refused before any CONFIG, with both lines on one identifier,
and with an identifier outside `VALID_PINS`. The refusals' names and the order of the checks are the model's (log entry 6). -/
def Obligations.LineCommandsNeedABinding : Prop :=
  ∀ (s : State) (v b : Byte), s.seq = .idle →
    (s.configured = false → exec (.send v b) s = .refused .notConfigured ∧ exec (.recv v b) s = .refused .notConfigured ∧
      exec (.sendcmd v b) s = .refused .notConfigured) ∧
    (s.configured = true → s.clkPin = s.datPin → exec (.send v b) s = .refused .samePin ∧
      exec (.recv v b) s = .refused .samePin ∧ exec (.sendcmd v b) s = .refused .samePin) ∧
    (s.configured = true → s.clkPin ≠ s.datPin →
      (s.params.validPins.has s.clkPin = false ∨ s.params.validPins.has s.datPin = false) →
      exec (.send v b) s = .refused .invalidPin ∧ exec (.recv v b) s = .refused .invalidPin ∧
      exec (.sendcmd v b) s = .refused .invalidPin)

/-- R124, R228, U14: parameters outside the spec stop the commands that use the hold. The refusal's name is the model's (log entry 7). -/
def Obligations.SendingNeedsLawfulParameters : Prop :=
  ∀ (s : State) (v b : Byte), s.seq = .idle → s.bindingRefusal = none →
    (s.params.inhibitUs < s.params.inhibitMinUs ∨ s.params.inhibitCycles = 0) →
    exec (.send v b) s = .refused .unlawfulParameters ∧ exec (.sendcmd v b) s = .refused .unlawfulParameters

/-- R10, R83, R112, R113, R124, R190, R228, U14: nothing else stops the machine. The refusals' names and their moment, acceptance by
an idle engine, are the model's choice (log entry 6), and so is that parameters outside the spec (R228, U14) stop SEND and SENDCMD
only, as `unlawfulParameters` (log entry 7). -/
def Obligations.RefusedOnlyAtAcceptance : Prop :=
  ∀ (s : State) (r : Refusal), step s = .refused r →
    s.env.hostNow.rst = false ∧ s.env.hostNow.cmdValid = true ∧ s.seq = .idle ∧ (decode s.env.hostNow.cmd).opcode ≠ 0 ∧
    ((r = .notConfigured ∧ s.configured = false) ∨
     (r = .samePin ∧ s.clkPin = s.datPin) ∨
     (r = .invalidPin ∧ (s.params.validPins.has s.clkPin = false ∨ s.params.validPins.has s.datPin = false)) ∨
     (r = .unlawfulParameters ∧ (decode s.env.hostNow.cmd).opcode ≠ 2 ∧
       (s.params.inhibitUs < s.params.inhibitMinUs ∨ s.params.inhibitCycles = 0)))

/-- R20, R5: the parameters are configuration: no step changes them. -/
def Obligations.ParametersNeverChange : Prop :=
  ∀ s t : State, step s = .next t → t.params = s.params

/-- R36, R38 to R41: what the ports show. Of the pads: `L_oe` = `MODE_L` and `L_out` = `LATCH_L`, and the pad pulls its line low
exactly when `L_oe` = 1 and `L_out` = 0 (R40). -/
def Obligations.PortsShowTheRegisters : Prop :=
  ∀ s : State, s.outputs.cmdReady = decide (s.seq = .idle) ∧ s.outputs.busy = !s.outputs.cmdReady ∧
    s.outputs.rxData = s.rxData ∧ s.outputs.status = s.status ∧
    s.outputs.clkSel = s.clkPin ∧ s.outputs.datSel = s.datPin ∧
    s.outputs.clkOe = decide (s.clkCell.mode = .out) ∧ s.outputs.clkOut = s.clkCell.latch ∧
    s.outputs.datOe = decide (s.datCell.mode = .out) ∧ s.outputs.datOut = s.datCell.latch ∧
    (s.enginePull .clk = (s.outputs.clkOe && !s.outputs.clkOut)) ∧ (s.enginePull .dat = (s.outputs.datOe && !s.outputs.datOut))

/-! ### CONFIG -/

/-- R110, R112: CONFIG, accepted by an idle engine whatever its operands, stores them in its one busy cycle and changes nothing else. -/
def Obligations.ConfigStoresBothPins : Prop :=
  ∀ (s : State) (clk dat : PinId), s.seq = .idle → s.env.advance.hostNow.rst = false → ∃ t, exec (.config clk dat) s = .next t ∧
    t.busy = true ∧
    step t = .next { s with op := 0, opa := clk, opb := dat, status := 0b000, clkPin := clk, datPin := dat, configured := true,
                            env := s.env.advance.advance }

/-- R111, R114: a CONFIG repeated with the same operands leaves the engine as the first did. -/
def Obligations.ConfigIsIdempotent : Prop :=
  ∀ (s t u : State) (clk dat : PinId), s.seq = .idle → s.env.noReset →
    exec (.config clk dat) s = .next t → step t = .next u →
    ∃ t', exec (.config clk dat) u = .next t' ∧ step t' = .next { u with env := u.env.advance.advance }

/-! ### The lines and the micro-operations -/

/-- R50, R51: the engine pulls iff `OUT` with latch 0; a line is low iff the engine or the peripheral pulls it. -/
def Obligations.WiresResolve : Prop :=
  ∀ (s : State) (l : Line),
    (s.enginePull l = true ↔ (s.cell l).mode = .out ∧ (s.cell l).latch = false) ∧
    (s.level l = false ↔ s.enginePull l = true ∨ s.env.pull l = true)

/-- R170, R171, R56: what PINMODE and PINWRITE leave in the two cells, and that they touch nothing else. -/
def Obligations.PinOperationsOnTheCells : Prop :=
  ∀ (s : State) (l : Line) (v : Bool),
    s.pinMode l .out = s.setCell l ⟨.out, (s.cell l).latch⟩ ∧
    s.pinMode l .inPullup = s.setCell l ⟨.inPullup, true⟩ ∧ (s.pinMode l .inPullup).enginePull l = false ∧
    s.pinWrite l v = s.setCell l ⟨(s.cell l).mode, v⟩ ∧
    (∀ (k : Line) (c : Cell), (s.setCell l c).cell k = if k = l then c else s.cell k) ∧
    (∀ c : Cell, { s.setCell l c with clkCell := s.clkCell, datCell := s.datCell } = s)

/-- R174, R175: a wait state stays, changing nothing, while its line has not the awaited level, and goes on in the first cycle in
which it has; but for TX_BIT_WL, which counts the bit, it then changes `SEQ` alone. -/
def Obligations.WaitStatesPollTheirLine : Prop :=
  ∀ (s : State) (l : Line) (v : Bool), s.env.hostNow.rst = false → s.seq.wait = some (l, v) →
    (s.level l ≠ v → step s = .next { s with env := s.env.advance }) ∧
    (s.level l = v → ∃ q n, q ∈ s.seq.successors ∧ q ≠ s.seq ∧ (s.seq ≠ .txBitWl → n = s.bitCnt) ∧
      step s = .next { s with seq := q, bitCnt := n, env := s.env.advance })

/-- R174, R195, R134, R148: as long as the awaited level does not come and there is no reset, the engine stays as it is, whatever the
host presents and however long it lasts. -/
def Obligations.UnmetWaitNeverEnds : Prop :=
  ∀ (s : State) (l : Line) (v : Bool) (ps later : List Pulls), s.seq.wait = some (l, v) → s.env.noReset →
    s.env.pulls = ps ++ later → (∀ p ∈ ps, resolve (s.enginePull l) (p.pull l) ≠ v) →
    run ps.length s = .next { s with env := ⟨s.env.host.drop ps.length, later, s.env.tick⟩ } ∧ s.busy = true

/-! ### SEND, state by state -/

/-- R121. -/
def Obligations.TxParityLooksUpTheBit : Prop :=
  ∀ s : State, s.env.hostNow.rst = false → s.seq = .txParity →
    step s = .next { s with par := parity s.opa, bitCnt := 0, seq := .txOutClk, env := s.env.advance }

/-- R122: both cells to `OUT`, clock first. The last clause, that neither line is pulled, is derived from R28, R44 and R50: it rests on
the model's invariant, which has both latches at 1 there, as decision D6 has it (log entry 11). -/
def Obligations.TxOutputModesClockFirst : Prop :=
  ∀ s : State, s.env.hostNow.rst = false →
    (s.seq = .txOutClk →
      step s = .next { s with clkCell := ⟨.out, s.clkCell.latch⟩, seq := .txOutDat, env := s.env.advance }) ∧
    (s.seq = .txOutDat →
      step s = .next { s with datCell := ⟨.out, s.datCell.latch⟩, seq := .txInhibit, env := s.env.advance }) ∧
    (s.Inv → s.seq = .txOutClk ∨ s.seq = .txOutDat → ∃ t, step s = .next t ∧
      t.enginePull .clk = false ∧ t.enginePull .dat = false)

/-- R123, R124: TX_INHIBIT writes the clock latch and loads the counter; TX_HOLD counts it down to 0 and goes on. -/
def Obligations.TxInhibitLoadsAndHolds : Prop :=
  ∀ s : State, s.env.hostNow.rst = false →
    (s.seq = .txInhibit → step s = .next { s with clkCell := ⟨s.clkCell.mode, false⟩, dly := s.params.inhibitCycles - 1,
                                                  seq := .txHold, env := s.env.advance }) ∧
    (s.seq = .txHold → s.dly ≠ 0 → step s = .next { s with dly := s.dly - 1, env := s.env.advance }) ∧
    (s.seq = .txHold → s.dly = 0 → step s = .next { s with seq := .txStart, env := s.env.advance })

/-- R124, its derived wire timing: with TX_INHIBIT in cycle 0 and `N` = `INHIBIT_CYCLES`, TX_HOLD is current in cycles 1 to `N`, the
clock is pulled in cycles 1 to `N + 2`, and the data line from cycle `N + 2` on, where the clock is released in `N + 3`. -/
def Obligations.InhibitHoldTiming : Prop :=
  ∀ s : State, s.seq = .txInhibit → s.clkCell = ⟨.out, true⟩ → s.datCell = ⟨.out, true⟩ → s.env.noReset →
    s.params.lawful = true →
    (∀ k, 1 ≤ k → k ≤ s.params.inhibitCycles → ∃ u, run k s = .next u ∧ u.seq = .txHold ∧
      u.dly = s.params.inhibitCycles - k ∧ u.enginePull .clk = true ∧ u.enginePull .dat = false) ∧
    (∃ u, run (s.params.inhibitCycles + 1) s = .next u ∧ u.seq = .txStart ∧ u.enginePull .clk = true ∧
      u.enginePull .dat = false) ∧
    (∃ u, run (s.params.inhibitCycles + 2) s = .next u ∧ u.seq = .txRelClk ∧ u.enginePull .clk = true ∧
      u.enginePull .dat = true) ∧
    (∃ u, run (s.params.inhibitCycles + 3) s = .next u ∧ u.seq = .txWaitDev ∧ u.enginePull .clk = false ∧
      u.enginePull .dat = true)

/-- R125, R126: the start bit, then the clock is handed over. -/
def Obligations.TxStartBitThenClockRelease : Prop :=
  ∀ s : State, s.env.hostNow.rst = false →
    (s.seq = .txStart →
      step s = .next { s with datCell := ⟨s.datCell.mode, false⟩, seq := .txRelClk, env := s.env.advance }) ∧
    (s.seq = .txRelClk →
      step s = .next { s with clkCell := ⟨.inPullup, true⟩, seq := .txWaitDev, env := s.env.advance })

/-- R127, R128: each data bit is written to the data latch by index, then one clock pulse is waited for and the bit counted. -/
def Obligations.TxDrivesDataBits : Prop :=
  ∀ s : State, s.env.hostNow.rst = false →
    (s.seq = .txWaitDev →
      step s = .next { s with seq := if s.level .clk = false then .txBitDrive else .txWaitDev, env := s.env.advance }) ∧
    (s.seq = .txBitDrive → step s = .next { s with datCell := ⟨s.datCell.mode, s.opa.getLsbD s.bitCnt.toNat⟩, seq := .txBitWh,
                                                   env := s.env.advance }) ∧
    (s.seq = .txBitWh →
      step s = .next { s with seq := if s.level .clk = true then .txBitWl else .txBitWh, env := s.env.advance }) ∧
    (s.seq = .txBitWl → s.bitCnt = 7 →
      step s = .next { s with seq := if s.level .clk = false then .txParDrive else .txBitWl, env := s.env.advance }) ∧
    (s.seq = .txBitWl → s.bitCnt ≠ 7 →
      step s = .next { s with bitCnt := if s.level .clk = false then s.bitCnt + 1 else s.bitCnt,
                              seq := if s.level .clk = false then .txBitDrive else .txBitWl, env := s.env.advance })

/-- R129, R130: the parity bit and its clock pulse, then the data line is released. -/
def Obligations.TxParityBitThenDataRelease : Prop :=
  ∀ s : State, s.env.hostNow.rst = false →
    (s.seq = .txParDrive →
      step s = .next { s with datCell := ⟨s.datCell.mode, s.par⟩, seq := .txParWh, env := s.env.advance }) ∧
    (s.seq = .txParWh →
      step s = .next { s with seq := if s.level .clk = true then .txParWl else .txParWh, env := s.env.advance }) ∧
    (s.seq = .txParWl →
      step s = .next { s with seq := if s.level .clk = false then .txRelDat else .txParWl, env := s.env.advance }) ∧
    (s.seq = .txRelDat →
      step s = .next { s with datCell := ⟨.inPullup, true⟩, seq := .txAckDat, env := s.env.advance })

/-- R131, R132: the handshake's four waits, and where the last one goes. -/
def Obligations.TxHandshakeWaits : Prop :=
  ∀ s : State, s.env.hostNow.rst = false →
    (s.seq = .txAckDat →
      step s = .next { s with seq := if s.level .dat = false then .txAckClk else .txAckDat, env := s.env.advance }) ∧
    (s.seq = .txAckClk →
      step s = .next { s with seq := if s.level .clk = false then .txIdleDat else .txAckClk, env := s.env.advance }) ∧
    (s.seq = .txIdleDat →
      step s = .next { s with seq := if s.level .dat = true then .txIdleClk else .txIdleDat, env := s.env.advance }) ∧
    (s.seq = .txIdleClk → s.op = 3 →
      step s = .next { s with seq := if s.level .clk = true then .rxWaitStart else .txIdleClk, env := s.env.advance }) ∧
    (s.seq = .txIdleClk → s.op ≠ 3 →
      step s = .next { s with seq := if s.level .clk = true then .idle else .txIdleClk, env := s.env.advance })

/-! ### RECV, state by state -/

/-- R141, R142: the start bit is sampled in the cycle after the clock was seen low; 1 is flagged and reception goes on. -/
def Obligations.RxSamplesTheStartBit : Prop :=
  ∀ s : State, s.env.hostNow.rst = false →
    (s.seq = .rxWaitStart →
      step s = .next { s with seq := if s.level .clk = false then .rxStart else .rxWaitStart, env := s.env.advance }) ∧
    (s.seq = .rxStart → s.level .dat = false →
      step s = .next { s with acc := 0x00, bitCnt := 0, seq := .rxBitWh, env := s.env.advance }) ∧
    (s.seq = .rxStart → s.level .dat = true →
      step s = .next { s with acc := 0x00, bitCnt := 0, status := s.status ||| 0b001, seq := .rxBitWh, env := s.env.advance })

/-- R143: one clock pulse, then the data level is OR-ed into position `BITCNT`, eight times. -/
def Obligations.RxSamplesDataBits : Prop :=
  ∀ s : State, s.env.hostNow.rst = false →
    (s.seq = .rxBitWh →
      step s = .next { s with seq := if s.level .clk = true then .rxBitWl else .rxBitWh, env := s.env.advance }) ∧
    (s.seq = .rxBitWl →
      step s = .next { s with seq := if s.level .clk = false then .rxBitSample else .rxBitWl, env := s.env.advance }) ∧
    (s.seq = .rxBitSample → s.bitCnt ≠ 7 →
      step s = .next { s with acc := s.acc ||| ((BitVec.ofBool (s.level .dat)).setWidth 8 <<< s.bitCnt.toNat),
                              bitCnt := s.bitCnt + 1, seq := .rxBitWh, env := s.env.advance }) ∧
    (s.seq = .rxBitSample → s.bitCnt = 7 →
      step s = .next { s with acc := s.acc ||| ((BitVec.ofBool (s.level .dat)).setWidth 8 <<< s.bitCnt.toNat),
                              seq := .rxParWh, env := s.env.advance })

/-- R144, R145: the parity and stop checks set their flags and change no successor. -/
def Obligations.RxChecksParityAndStop : Prop :=
  ∀ s : State, s.env.hostNow.rst = false →
    (s.seq = .rxParWh →
      step s = .next { s with seq := if s.level .clk = true then .rxParWl else .rxParWh, env := s.env.advance }) ∧
    (s.seq = .rxParWl →
      step s = .next { s with seq := if s.level .clk = false then .rxParSample else .rxParWl, env := s.env.advance }) ∧
    (s.seq = .rxParSample → step s = .next { s with
        status := if s.level .dat ≠ parity s.acc then s.status ||| 0b010 else s.status, seq := .rxStopWh, env := s.env.advance }) ∧
    (s.seq = .rxStopWh →
      step s = .next { s with seq := if s.level .clk = true then .rxStopWl else .rxStopWh, env := s.env.advance }) ∧
    (s.seq = .rxStopWl →
      step s = .next { s with seq := if s.level .clk = false then .rxStopSample else .rxStopWl, env := s.env.advance }) ∧
    (s.seq = .rxStopSample → step s = .next { s with
        status := if s.level .dat ≠ true then s.status ||| 0b001 else s.status, seq := .rxEndWh, env := s.env.advance })

/-- R146, R147: the frame's end, and the byte published whatever flags are set. -/
def Obligations.RxPublishesTheByte : Prop :=
  ∀ s : State, s.env.hostNow.rst = false →
    (s.seq = .rxEndWh →
      step s = .next { s with seq := if s.level .clk = true then .rxDone else .rxEndWh, env := s.env.advance }) ∧
    (s.seq = .rxDone → s.op = 3 → step s = .next { s with rxData := s.acc, seq := .ackCheck, env := s.env.advance }) ∧
    (s.seq = .rxDone → s.op ≠ 3 → step s = .next { s with rxData := s.acc, seq := .idle, env := s.env.advance })

/-- R161: the response is compared with `ACK` on all eight bits and on nothing else. -/
def Obligations.AckCheckComparesTheByte : Prop :=
  ∀ s : State, s.env.hostNow.rst = false → s.seq = .ackCheck →
    step s = .next { s with status := if s.rxData ≠ s.params.ack then s.status ||| 0b100 else s.status, seq := .idle,
                            env := s.env.advance }

/-! ### Parity and flags -/

/-- R58: the ROM's contents by their law, in both forms the rule gives. -/
def Obligations.ParityRomIsOddParity : Prop :=
  ∀ v : Byte, (parity v = true ↔ popcount v % 2 = 0) ∧
    parity v = !(v.getLsbD 0 ^^ v.getLsbD 1 ^^ v.getLsbD 2 ^^ v.getLsbD 3 ^^ v.getLsbD 4 ^^ v.getLsbD 5 ^^ v.getLsbD 6 ^^ v.getLsbD 7)

/-- R88, R150 case 3, V02: data and parity hold an odd number of 1s, so one flipped data bit always flips the parity bit. -/
def Obligations.OneFlippedBitFlipsParity : Prop :=
  ∀ v : Byte, (popcount v + (parity v).toNat) % 2 = 1 ∧
    ∀ k, k < 8 → parity (v ^^^ (1#8 <<< k)) = !parity v

/-- R191, R31: a flag sets its own bit and no other, and stays until the next acceptance or reset. -/
def Obligations.FlagsAreSticky : Prop :=
  (∀ (x y : Anomaly) (st : BitVec 3), hasFlag y (setFlag x st) = (decide (y = x) || hasFlag y st)) ∧
  (∀ (s t : State) (x : Anomaly), s.env.hostNow.rst = false → ¬ (s.seq = .idle ∧ s.env.hostNow.cmdValid = true) →
    step s = .next t → hasFlag x s.status = true → hasFlag x t.status = true)

/-- R190, R192 to R194: a flag that was clear is set by the check of its own anomaly and by nothing else. -/
def Obligations.FlagsComeFromTheirChecks : Prop :=
  ∀ s t : State, s.env.hostNow.rst = false → step s = .next t →
    (hasFlag .fe s.status = false → (hasFlag .fe t.status = true ↔
      (s.seq = .rxStart ∧ s.level .dat = true) ∨ (s.seq = .rxStopSample ∧ s.level .dat = false))) ∧
    (hasFlag .pe s.status = false → (hasFlag .pe t.status = true ↔ s.seq = .rxParSample ∧ s.level .dat ≠ parity s.acc)) ∧
    (hasFlag .am s.status = false → (hasFlag .am t.status = true ↔ s.seq = .ackCheck ∧ s.rxData ≠ s.params.ack))

/-! ### Whole-machine rules -/

/-- R178: successors depend on `OP`, `BITCNT`, `DLY`, the lines and the port, never on the data registers or the flags. -/
def Obligations.SuccessorsIgnoreData : Prop :=
  ∀ (s t : State) (opa opb acc rxData : Byte) (par : Bool) (status : BitVec 3), step s = .next t →
    ∃ t', step { s with opa := opa, opb := opb, acc := acc, rxData := rxData, par := par, status := status } = .next t' ∧
      t'.seq = t.seq

/-- R46, R137, R151, R178: `SEQ` moves by the micro-program tables, and only wait states and TX_HOLD last more than a cycle. -/
def Obligations.SequencerMovesByTheTables : Prop :=
  ∀ s t : State, s.env.hostNow.rst = false → s.seq ≠ .idle → step s = .next t →
    t.seq ∈ s.seq.successors ∨ (t.seq = s.seq ∧ (s.seq.wait.isSome = true ∨ s.seq = .txHold))

/-- R21 to R34: which states write each register; a cycle without reset in any other state leaves it. -/
def Obligations.RegistersHaveTheirWriters : Prop :=
  ∀ s t : State, s.env.hostNow.rst = false → step s = .next t →
    (s.seq ≠ .idle → t.op = s.op ∧ t.opa = s.opa ∧ t.opb = s.opb) ∧
    (s.seq ≠ .cfgStore → t.clkPin = s.clkPin ∧ t.datPin = s.datPin ∧ t.configured = s.configured) ∧
    (s.seq ∉ [.txOutClk, .txInhibit, .txRelClk] → t.clkCell = s.clkCell) ∧
    (s.seq ∉ [.txOutDat, .txStart, .txBitDrive, .txParDrive, .txRelDat] → t.datCell = s.datCell) ∧
    (s.seq ≠ .txParity → t.par = s.par) ∧
    (s.seq ∉ [.rxStart, .rxBitSample] → t.acc = s.acc) ∧
    (s.seq ∉ [.txParity, .txBitWl, .rxStart, .rxBitSample] → t.bitCnt = s.bitCnt) ∧
    (s.seq ∉ [.txInhibit, .txHold] → t.dly = s.dly) ∧
    (s.seq ∉ [.idle, .rxStart, .rxParSample, .rxStopSample, .ackCheck] → t.status = s.status) ∧
    (s.seq ≠ .rxDone → t.rxData = s.rxData)

/-- R56, R179: no cycle but a reset touches both driver cells. -/
def Obligations.OneLineTouchedPerCycle : Prop :=
  ∀ s t : State, s.env.hostNow.rst = false → step s = .next t → t.clkCell = s.clkCell ∨ t.datCell = s.datCell

/-- R26, R31, R33, R34, R44: every step keeps the invariant of the engine. -/
def Obligations.StepKeepsTheInvariant : Prop :=
  ∀ s t : State, s.Inv → step s = .next t → t.Inv

/-- R43: the reset state has the invariant. -/
def Obligations.ResetHasTheInvariant : Prop := State.reset.Inv

/-- R44: an idle engine has released both lines. -/
def Obligations.IdleReleasesBothLines : Prop :=
  ∀ s : State, s.Inv → s.seq = .idle → s.clkCell = ⟨.inPullup, true⟩ ∧ s.datCell = ⟨.inPullup, true⟩ ∧
    s.enginePull .clk = false ∧ s.enginePull .dat = false

/-- R61, R134: the engine pulls only a line it owns, but for the cycle of TX_REL_DAT, whose write hands the data line over; it
never waits pulling the clock, and never reads a line in `OUT` mode (R66). -/
def Obligations.EnginePullsOnlyItsOwnLines : Prop :=
  ∀ s : State, s.Inv →
    (∀ l, s.enginePull l = true → s.seq.owner l = .engine ∨ (s.seq = .txRelDat ∧ l = .dat)) ∧
    (∀ l v, s.seq.wait = some (l, v) → s.enginePull .clk = false ∧ (s.cell l).mode = .inPullup) ∧
    (s.seq ∈ [.rxStart, .rxBitSample, .rxParSample, .rxStopSample] → s.datCell.mode = .inPullup)

/-! ### Whole commands -/

/-- R120, R133: a SEND whose waits are all satisfied ends idle, busy until then, with the end state of R120 and nothing else changed. -/
def Obligations.SendRunsToItsEnd : Prop :=
  ∀ (s : State) (v b : Byte) (p : Pulls) (script later : List Pulls), s.seq = .idle → s.released → s.sendingRefusal = none →
    s.env.noReset → s.env.pulls = p :: (script ++ later) → Fits (sendPlan s.params.inhibitCycles) script →
    ∃ t, exec (.send v b) s = .next t ∧
      (∀ k, k < script.length → ∃ u, run k t = .next u ∧ u.busy = true) ∧
      run script.length t = .next
        { s with
          op := 1, opa := v, opb := b, status := 0b000, par := parity v, bitCnt := 7, dly := 0
          env := ⟨s.env.host.drop (script.length + 1), later, s.env.tick⟩ }

/-- R87, R135, R227: a peripheral with long enough clock phases finds, at the end of its `k`-th low phase, the `k`-th cell of the
frame after the start cell on the data line: data bits from bit 0, parity, stop; and before the first one the start cell, 0. -/
def Obligations.SendPutsTheFrameOnTheWire : Prop :=
  ∀ (s : State) (v b : Byte) (p : Pulls) (setup later : List Pulls) (gap low : Nat) (phases : List (Nat × Nat)),
    s.seq = .idle → s.released → s.sendingRefusal = none → s.env.noReset → setup.length = 6 + s.params.inhibitCycles →
    1 ≤ gap → 3 ≤ low → longEnough phases → phases.length ≤ 9 →
    s.env.pulls = p :: (setup ++ silence gap ++ clockPulses phases ++ clockLow low ++ later) →
    ∃ t, exec (.send v b) s = .next t ∧
      (∃ u, run (setup.length + gap - 1) t = .next u ∧ u.level .clk = true ∧ (frameCells v)[0]? = some (u.level .dat)) ∧
      (∃ u, run (setup.length + gap + (clockPulses phases).length + low - 1) t = .next u ∧ u.level .clk = false ∧
        (frameCells v)[phases.length + 1]? = some (u.level .dat))

/-- R140, R148, R149, R150, R196: a RECV whose waits are all satisfied ends idle with the sampled bits in `RXDATA`, the first in
bit 0, and the flags of the checks that failed, whatever the cells; nothing else changes. -/
def Obligations.RecvRunsToItsEnd : Prop :=
  ∀ (s : State) (a b v : Byte) (start par stop : Bool) (p : Pulls) (script later : List Pulls), s.seq = .idle → s.released →
    s.bindingRefusal = none → s.env.noReset → s.env.pulls = p :: (script ++ later) → Fits (recvPlan start v par stop) script →
    ∃ t, exec (.recv a b) s = .next t ∧
      (∀ k, k < script.length → ∃ u, run k t = .next u ∧ u.busy = true) ∧
      run script.length t = .next
        { s with
          op := 2, opa := a, opb := b, acc := v, bitCnt := 7, rxData := v, status := receptionStatus start v par stop
          env := ⟨s.env.host.drop (script.length + 1), later, s.env.tick⟩ }

/-- R227: clock phases of at least 2 cycles, with the data held in the first 2 low ones, are enough for RECV to take every cell. -/
def Obligations.RecvTakesClockedCells : Prop :=
  ∀ (s : State) (a b v : Byte) (start par stop : Bool) (p q q' : Pulls) (frame later : List Pulls), s.seq = .idle → s.released →
    s.bindingRefusal = none → s.env.noReset → s.env.pulls = p :: (frame ++ [q, q'] ++ later) → q.clk = false →
    ClockedCells (start :: dataCells v ++ [par, stop]) frame →
    ∃ t, exec (.recv a b) s = .next t ∧
      run (frame.length + 2) t = .next
        { s with
          op := 2, opa := a, opb := b, acc := v, bitCnt := 7, rxData := v, status := receptionStatus start v par stop
          env := ⟨s.env.host.drop (frame.length + 3), later, s.env.tick⟩ }

/-- R149: receiving the cells that SEND puts on the wire for a byte gives the byte, with no flag. -/
def Obligations.ReceivedFrameGivesTheByte : Prop :=
  ∀ (s : State) (a b v : Byte) (p q q' : Pulls) (frame later : List Pulls), s.seq = .idle → s.released →
    s.bindingRefusal = none → s.env.noReset → s.env.pulls = p :: (frame ++ [q, q'] ++ later) → q.clk = false →
    ClockedCells (frameCells v) frame →
    ∃ t u, exec (.recv a b) s = .next t ∧ run (frame.length + 2) t = .next u ∧ u.seq = .idle ∧ u.rxData = v ∧ u.status = 0b000

/-- R160, R161, R162: a SENDCMD whose waits are all satisfied ends idle: the command byte sent, the response `r` in `RXDATA` with its
own flags, and `AM` set iff it is not `ACK`. -/
def Obligations.SendcmdRunsToItsEnd : Prop :=
  ∀ (s : State) (c b r : Byte) (start par stop : Bool) (p : Pulls) (script later : List Pulls), s.seq = .idle → s.released →
    s.sendingRefusal = none → s.env.noReset → s.env.pulls = p :: (script ++ later) →
    Fits (sendcmdPlan s.params.inhibitCycles start r par stop) script →
    ∃ t, exec (.sendcmd c b) s = .next t ∧
      (∀ k, k < script.length → ∃ u, run k t = .next u ∧ u.busy = true) ∧
      run script.length t = .next
        { s with
          op := 3, opa := c, opb := b, par := parity c, dly := 0, acc := r, bitCnt := 7, rxData := r
          status := receptionStatus start r par stop ||| (if r ≠ s.params.ack then 0b100 else 0b000)
          env := ⟨s.env.host.drop (script.length + 1), later, s.env.tick⟩ }

/-- R236: no SEND, RECV or SENDCMD ends in fewer cycles than the table's minimum, whatever the peripheral does. -/
def Obligations.CommandsTakeTheirMinimum : Prop :=
  ∀ (s t u : State) (n : Nat) (x b : Byte), s.seq = .idle → s.env.noReset → run n t = .next u → u.seq = .idle →
    (exec (.send x b) s = .next t → s.params.inhibitCycles + 39 ≤ n) ∧
    (exec (.recv x b) s = .next t → 34 ≤ n) ∧
    (exec (.sendcmd x b) s = .next t → s.params.inhibitCycles + 74 ≤ n)

/-- R83: the operand bits a command ignores are copied to `OPA` and `OPB` and make no other difference, ever. -/
def Obligations.IgnoredOperandsMakeNoDifference : Prop :=
  ∀ s t : State, s.seq = .idle →
    (∀ v b b', exec (.send v b) s = .next t → ∃ t', exec (.send v b') s = .next t' ∧
      ∀ n u, run n t = .next u → ∃ x, run n t' = .next { u with opb := x }) ∧
    (∀ c b b', exec (.sendcmd c b) s = .next t → ∃ t', exec (.sendcmd c b') s = .next t' ∧
      ∀ n u, run n t = .next u → ∃ x, run n t' = .next { u with opb := x }) ∧
    (∀ a a' b b', exec (.recv a b) s = .next t → ∃ t', exec (.recv a' b') s = .next t' ∧
      ∀ n u, run n t = .next u → ∃ x y, run n t' = .next { u with opa := x, opb := y })
end

