-- ==== Sys2Proof/Laws/PerInstr.lean ====
section
/-! SUPPORT. The family of statements made for every command: its word fits its own row of the opcode map
(spec 30_encoding.md R82). -/

namespace Sys2Proof.Laws.RowOfWord

/-- The command's word has the row's pattern under the row's mask, and the operand fields are its operands. -/
def Statement (i : Instr) : Prop :=
  i.row.fits (encode i) = true ∧ i.row.build i.operandA i.operandB = i

theorem word_masked (op : BitVec 2) (a b : Byte) : ((op ++ a ++ b) &&& 0x30000#18 : BitVec 18) = op.setWidth 18 <<< 16 := by
  ext k hk
  simp only [BitVec.getElem_and, BitVec.getElem_append, BitVec.getElem_shiftLeft, BitVec.getElem_setWidth]
  interval_cases k <;> simp

theorem config (clk dat : PinId) : Statement (.config clk dat) := by
  exact ⟨by simp [OpcodeRow.fits, encode, Instr.row, rowConfig, Instr.opcode, word_masked], rfl⟩

theorem send (v b : Byte) : Statement (.send v b) := by
  exact ⟨by simp [OpcodeRow.fits, encode, Instr.row, rowSend, Instr.opcode, word_masked], rfl⟩

theorem recv (a b : Byte) : Statement (.recv a b) := by
  exact ⟨by simp [OpcodeRow.fits, encode, Instr.row, rowRecv, Instr.opcode, word_masked], rfl⟩

theorem sendcmd (c b : Byte) : Statement (.sendcmd c b) := by
  exact ⟨by simp [OpcodeRow.fits, encode, Instr.row, rowSendcmd, Instr.opcode, word_masked], rfl⟩

end Sys2Proof.Laws.RowOfWord
end

