-- ==== Sys2Proof/Laws/State.lean ====
section
/-! SUPPORT. One lemma per field per update of the state (all by `rfl` or by cases on a line), so that no later proof unfolds
a record update. -/

namespace Sys2Proof.Machine

/-! ### `goto`, `endCycle`, `accept` -/

@[simp] theorem goto_seq (s : State) (q : SeqState) : (s.goto q).seq = q := rfl
@[simp] theorem goto_op (s : State) (q : SeqState) : (s.goto q).op = s.op := rfl
@[simp] theorem goto_opa (s : State) (q : SeqState) : (s.goto q).opa = s.opa := rfl
@[simp] theorem goto_opb (s : State) (q : SeqState) : (s.goto q).opb = s.opb := rfl
@[simp] theorem goto_clkPin (s : State) (q : SeqState) : (s.goto q).clkPin = s.clkPin := rfl
@[simp] theorem goto_datPin (s : State) (q : SeqState) : (s.goto q).datPin = s.datPin := rfl
@[simp] theorem goto_clkCell (s : State) (q : SeqState) : (s.goto q).clkCell = s.clkCell := rfl
@[simp] theorem goto_datCell (s : State) (q : SeqState) : (s.goto q).datCell = s.datCell := rfl
@[simp] theorem goto_par (s : State) (q : SeqState) : (s.goto q).par = s.par := rfl
@[simp] theorem goto_acc (s : State) (q : SeqState) : (s.goto q).acc = s.acc := rfl
@[simp] theorem goto_bitCnt (s : State) (q : SeqState) : (s.goto q).bitCnt = s.bitCnt := rfl
@[simp] theorem goto_dly (s : State) (q : SeqState) : (s.goto q).dly = s.dly := rfl
@[simp] theorem goto_status (s : State) (q : SeqState) : (s.goto q).status = s.status := rfl
@[simp] theorem goto_rxData (s : State) (q : SeqState) : (s.goto q).rxData = s.rxData := rfl
@[simp] theorem goto_configured (s : State) (q : SeqState) : (s.goto q).configured = s.configured := rfl
@[simp] theorem goto_params (s : State) (q : SeqState) : (s.goto q).params = s.params := rfl
@[simp] theorem goto_env (s : State) (q : SeqState) : (s.goto q).env = s.env := rfl

@[simp] theorem endCycle_seq (s : State) : s.endCycle.seq = s.seq := rfl
@[simp] theorem endCycle_op (s : State) : s.endCycle.op = s.op := rfl
@[simp] theorem endCycle_opa (s : State) : s.endCycle.opa = s.opa := rfl
@[simp] theorem endCycle_opb (s : State) : s.endCycle.opb = s.opb := rfl
@[simp] theorem endCycle_clkPin (s : State) : s.endCycle.clkPin = s.clkPin := rfl
@[simp] theorem endCycle_datPin (s : State) : s.endCycle.datPin = s.datPin := rfl
@[simp] theorem endCycle_clkCell (s : State) : s.endCycle.clkCell = s.clkCell := rfl
@[simp] theorem endCycle_datCell (s : State) : s.endCycle.datCell = s.datCell := rfl
@[simp] theorem endCycle_par (s : State) : s.endCycle.par = s.par := rfl
@[simp] theorem endCycle_acc (s : State) : s.endCycle.acc = s.acc := rfl
@[simp] theorem endCycle_bitCnt (s : State) : s.endCycle.bitCnt = s.bitCnt := rfl
@[simp] theorem endCycle_dly (s : State) : s.endCycle.dly = s.dly := rfl
@[simp] theorem endCycle_status (s : State) : s.endCycle.status = s.status := rfl
@[simp] theorem endCycle_rxData (s : State) : s.endCycle.rxData = s.rxData := rfl
@[simp] theorem endCycle_configured (s : State) : s.endCycle.configured = s.configured := rfl
@[simp] theorem endCycle_params (s : State) : s.endCycle.params = s.params := rfl
@[simp] theorem endCycle_env (s : State) : s.endCycle.env = s.env.advance := rfl

@[simp] theorem accept_seq (s : State) (op : BitVec 2) (a b : Byte) (q : SeqState) : (s.accept op a b q).seq = q := rfl
@[simp] theorem accept_op (s : State) (op : BitVec 2) (a b : Byte) (q : SeqState) : (s.accept op a b q).op = op := rfl
@[simp] theorem accept_opa (s : State) (op : BitVec 2) (a b : Byte) (q : SeqState) : (s.accept op a b q).opa = a := rfl
@[simp] theorem accept_opb (s : State) (op : BitVec 2) (a b : Byte) (q : SeqState) : (s.accept op a b q).opb = b := rfl
@[simp] theorem accept_clkPin (s : State) (op : BitVec 2) (a b : Byte) (q : SeqState) : (s.accept op a b q).clkPin = s.clkPin := rfl
@[simp] theorem accept_datPin (s : State) (op : BitVec 2) (a b : Byte) (q : SeqState) : (s.accept op a b q).datPin = s.datPin := rfl
@[simp] theorem accept_clkCell (s : State) (op : BitVec 2) (a b : Byte) (q : SeqState) : (s.accept op a b q).clkCell = s.clkCell := rfl
@[simp] theorem accept_datCell (s : State) (op : BitVec 2) (a b : Byte) (q : SeqState) : (s.accept op a b q).datCell = s.datCell := rfl
@[simp] theorem accept_par (s : State) (op : BitVec 2) (a b : Byte) (q : SeqState) : (s.accept op a b q).par = s.par := rfl
@[simp] theorem accept_acc (s : State) (op : BitVec 2) (a b : Byte) (q : SeqState) : (s.accept op a b q).acc = s.acc := rfl
@[simp] theorem accept_bitCnt (s : State) (op : BitVec 2) (a b : Byte) (q : SeqState) : (s.accept op a b q).bitCnt = s.bitCnt := rfl
@[simp] theorem accept_dly (s : State) (op : BitVec 2) (a b : Byte) (q : SeqState) : (s.accept op a b q).dly = s.dly := rfl
@[simp] theorem accept_status (s : State) (op : BitVec 2) (a b : Byte) (q : SeqState) : (s.accept op a b q).status = 0 := rfl
@[simp] theorem accept_rxData (s : State) (op : BitVec 2) (a b : Byte) (q : SeqState) : (s.accept op a b q).rxData = s.rxData := rfl
@[simp] theorem accept_configured (s : State) (op : BitVec 2) (a b : Byte) (q : SeqState) : (s.accept op a b q).configured = s.configured := rfl
@[simp] theorem accept_params (s : State) (op : BitVec 2) (a b : Byte) (q : SeqState) : (s.accept op a b q).params = s.params := rfl
@[simp] theorem accept_env (s : State) (op : BitVec 2) (a b : Byte) (q : SeqState) : (s.accept op a b q).env = s.env := rfl

/-! ### `setCell`, and `pinMode` and `pinWrite` over it -/

@[simp] theorem setCell_seq (s : State) (l : Line) (c : Cell) : (s.setCell l c).seq = s.seq := by cases l <;> rfl
@[simp] theorem setCell_op (s : State) (l : Line) (c : Cell) : (s.setCell l c).op = s.op := by cases l <;> rfl
@[simp] theorem setCell_opa (s : State) (l : Line) (c : Cell) : (s.setCell l c).opa = s.opa := by cases l <;> rfl
@[simp] theorem setCell_opb (s : State) (l : Line) (c : Cell) : (s.setCell l c).opb = s.opb := by cases l <;> rfl
@[simp] theorem setCell_clkPin (s : State) (l : Line) (c : Cell) : (s.setCell l c).clkPin = s.clkPin := by cases l <;> rfl
@[simp] theorem setCell_datPin (s : State) (l : Line) (c : Cell) : (s.setCell l c).datPin = s.datPin := by cases l <;> rfl
@[simp] theorem setCell_par (s : State) (l : Line) (c : Cell) : (s.setCell l c).par = s.par := by cases l <;> rfl
@[simp] theorem setCell_acc (s : State) (l : Line) (c : Cell) : (s.setCell l c).acc = s.acc := by cases l <;> rfl
@[simp] theorem setCell_bitCnt (s : State) (l : Line) (c : Cell) : (s.setCell l c).bitCnt = s.bitCnt := by cases l <;> rfl
@[simp] theorem setCell_dly (s : State) (l : Line) (c : Cell) : (s.setCell l c).dly = s.dly := by cases l <;> rfl
@[simp] theorem setCell_status (s : State) (l : Line) (c : Cell) : (s.setCell l c).status = s.status := by cases l <;> rfl
@[simp] theorem setCell_rxData (s : State) (l : Line) (c : Cell) : (s.setCell l c).rxData = s.rxData := by cases l <;> rfl
@[simp] theorem setCell_configured (s : State) (l : Line) (c : Cell) : (s.setCell l c).configured = s.configured := by cases l <;> rfl
@[simp] theorem setCell_params (s : State) (l : Line) (c : Cell) : (s.setCell l c).params = s.params := by cases l <;> rfl
@[simp] theorem setCell_env (s : State) (l : Line) (c : Cell) : (s.setCell l c).env = s.env := by cases l <;> rfl

@[simp] theorem setCell_clk_clkCell (s : State) (c : Cell) : (s.setCell .clk c).clkCell = c := rfl
@[simp] theorem setCell_clk_datCell (s : State) (c : Cell) : (s.setCell .clk c).datCell = s.datCell := rfl
@[simp] theorem setCell_dat_clkCell (s : State) (c : Cell) : (s.setCell .dat c).clkCell = s.clkCell := rfl
@[simp] theorem setCell_dat_datCell (s : State) (c : Cell) : (s.setCell .dat c).datCell = c := rfl

/-- Writing a line's cell and reading it back. -/
@[simp] theorem setCell_cell_same (s : State) (l : Line) (c : Cell) : (s.setCell l c).cell l = c := by cases l <;> rfl

/-- Writing a line's cell leaves the other line's alone (20_memory.md R56). -/
theorem setCell_cell_other (s : State) {l k : Line} (c : Cell) (h : k ≠ l) : (s.setCell l c).cell k = s.cell k := by
  cases l <;> cases k <;> first | rfl | exact absurd rfl h

@[simp] theorem cell_clk (s : State) : s.cell .clk = s.clkCell := rfl
@[simp] theorem cell_dat (s : State) : s.cell .dat = s.datCell := rfl
@[simp] theorem goto_cell (s : State) (q : SeqState) (l : Line) : (s.goto q).cell l = s.cell l := by cases l <;> rfl
@[simp] theorem endCycle_cell (s : State) (l : Line) : s.endCycle.cell l = s.cell l := by cases l <;> rfl

@[simp] theorem pinMode_seq (s : State) (l : Line) (m : PadMode) : (s.pinMode l m).seq = s.seq := by simp [State.pinMode]
@[simp] theorem pinMode_op (s : State) (l : Line) (m : PadMode) : (s.pinMode l m).op = s.op := by simp [State.pinMode]
@[simp] theorem pinMode_opa (s : State) (l : Line) (m : PadMode) : (s.pinMode l m).opa = s.opa := by simp [State.pinMode]
@[simp] theorem pinMode_opb (s : State) (l : Line) (m : PadMode) : (s.pinMode l m).opb = s.opb := by simp [State.pinMode]
@[simp] theorem pinMode_clkPin (s : State) (l : Line) (m : PadMode) : (s.pinMode l m).clkPin = s.clkPin := by simp [State.pinMode]
@[simp] theorem pinMode_datPin (s : State) (l : Line) (m : PadMode) : (s.pinMode l m).datPin = s.datPin := by simp [State.pinMode]
@[simp] theorem pinMode_par (s : State) (l : Line) (m : PadMode) : (s.pinMode l m).par = s.par := by simp [State.pinMode]
@[simp] theorem pinMode_acc (s : State) (l : Line) (m : PadMode) : (s.pinMode l m).acc = s.acc := by simp [State.pinMode]
@[simp] theorem pinMode_bitCnt (s : State) (l : Line) (m : PadMode) : (s.pinMode l m).bitCnt = s.bitCnt := by simp [State.pinMode]
@[simp] theorem pinMode_dly (s : State) (l : Line) (m : PadMode) : (s.pinMode l m).dly = s.dly := by simp [State.pinMode]
@[simp] theorem pinMode_status (s : State) (l : Line) (m : PadMode) : (s.pinMode l m).status = s.status := by simp [State.pinMode]
@[simp] theorem pinMode_rxData (s : State) (l : Line) (m : PadMode) : (s.pinMode l m).rxData = s.rxData := by simp [State.pinMode]
@[simp] theorem pinMode_configured (s : State) (l : Line) (m : PadMode) : (s.pinMode l m).configured = s.configured := by simp [State.pinMode]
@[simp] theorem pinMode_params (s : State) (l : Line) (m : PadMode) : (s.pinMode l m).params = s.params := by simp [State.pinMode]
@[simp] theorem pinMode_env (s : State) (l : Line) (m : PadMode) : (s.pinMode l m).env = s.env := by simp [State.pinMode]

@[simp] theorem pinWrite_seq (s : State) (l : Line) (v : Bool) : (s.pinWrite l v).seq = s.seq := by simp [State.pinWrite]
@[simp] theorem pinWrite_op (s : State) (l : Line) (v : Bool) : (s.pinWrite l v).op = s.op := by simp [State.pinWrite]
@[simp] theorem pinWrite_opa (s : State) (l : Line) (v : Bool) : (s.pinWrite l v).opa = s.opa := by simp [State.pinWrite]
@[simp] theorem pinWrite_opb (s : State) (l : Line) (v : Bool) : (s.pinWrite l v).opb = s.opb := by simp [State.pinWrite]
@[simp] theorem pinWrite_clkPin (s : State) (l : Line) (v : Bool) : (s.pinWrite l v).clkPin = s.clkPin := by simp [State.pinWrite]
@[simp] theorem pinWrite_datPin (s : State) (l : Line) (v : Bool) : (s.pinWrite l v).datPin = s.datPin := by simp [State.pinWrite]
@[simp] theorem pinWrite_par (s : State) (l : Line) (v : Bool) : (s.pinWrite l v).par = s.par := by simp [State.pinWrite]
@[simp] theorem pinWrite_acc (s : State) (l : Line) (v : Bool) : (s.pinWrite l v).acc = s.acc := by simp [State.pinWrite]
@[simp] theorem pinWrite_bitCnt (s : State) (l : Line) (v : Bool) : (s.pinWrite l v).bitCnt = s.bitCnt := by simp [State.pinWrite]
@[simp] theorem pinWrite_dly (s : State) (l : Line) (v : Bool) : (s.pinWrite l v).dly = s.dly := by simp [State.pinWrite]
@[simp] theorem pinWrite_status (s : State) (l : Line) (v : Bool) : (s.pinWrite l v).status = s.status := by simp [State.pinWrite]
@[simp] theorem pinWrite_rxData (s : State) (l : Line) (v : Bool) : (s.pinWrite l v).rxData = s.rxData := by simp [State.pinWrite]
@[simp] theorem pinWrite_configured (s : State) (l : Line) (v : Bool) : (s.pinWrite l v).configured = s.configured := by simp [State.pinWrite]
@[simp] theorem pinWrite_params (s : State) (l : Line) (v : Bool) : (s.pinWrite l v).params = s.params := by simp [State.pinWrite]
@[simp] theorem pinWrite_env (s : State) (l : Line) (v : Bool) : (s.pinWrite l v).env = s.env := by simp [State.pinWrite]

@[simp] theorem pinMode_cell_same (s : State) (l : Line) (m : PadMode) : (s.pinMode l m).cell l = (s.cell l).withMode m := by
  simp [State.pinMode]

@[simp] theorem pinWrite_cell_same (s : State) (l : Line) (v : Bool) : (s.pinWrite l v).cell l = { s.cell l with latch := v } := by
  simp [State.pinWrite]

@[simp] theorem withMode_out (c : Cell) : c.withMode .out = { c with mode := .out } := rfl
@[simp] theorem withMode_inPullup (c : Cell) : c.withMode .inPullup = Cell.released := rfl

/-! ### `flagIf` -/

@[simp] theorem flagIf_seq (s : State) (c : Bool) (x : Anomaly) : (s.flagIf c x).seq = s.seq := by cases c <;> rfl
@[simp] theorem flagIf_op (s : State) (c : Bool) (x : Anomaly) : (s.flagIf c x).op = s.op := by cases c <;> rfl
@[simp] theorem flagIf_opa (s : State) (c : Bool) (x : Anomaly) : (s.flagIf c x).opa = s.opa := by cases c <;> rfl
@[simp] theorem flagIf_opb (s : State) (c : Bool) (x : Anomaly) : (s.flagIf c x).opb = s.opb := by cases c <;> rfl
@[simp] theorem flagIf_clkPin (s : State) (c : Bool) (x : Anomaly) : (s.flagIf c x).clkPin = s.clkPin := by cases c <;> rfl
@[simp] theorem flagIf_datPin (s : State) (c : Bool) (x : Anomaly) : (s.flagIf c x).datPin = s.datPin := by cases c <;> rfl
@[simp] theorem flagIf_clkCell (s : State) (c : Bool) (x : Anomaly) : (s.flagIf c x).clkCell = s.clkCell := by cases c <;> rfl
@[simp] theorem flagIf_datCell (s : State) (c : Bool) (x : Anomaly) : (s.flagIf c x).datCell = s.datCell := by cases c <;> rfl
@[simp] theorem flagIf_par (s : State) (c : Bool) (x : Anomaly) : (s.flagIf c x).par = s.par := by cases c <;> rfl
@[simp] theorem flagIf_acc (s : State) (c : Bool) (x : Anomaly) : (s.flagIf c x).acc = s.acc := by cases c <;> rfl
@[simp] theorem flagIf_bitCnt (s : State) (c : Bool) (x : Anomaly) : (s.flagIf c x).bitCnt = s.bitCnt := by cases c <;> rfl
@[simp] theorem flagIf_dly (s : State) (c : Bool) (x : Anomaly) : (s.flagIf c x).dly = s.dly := by cases c <;> rfl
@[simp] theorem flagIf_rxData (s : State) (c : Bool) (x : Anomaly) : (s.flagIf c x).rxData = s.rxData := by cases c <;> rfl
@[simp] theorem flagIf_configured (s : State) (c : Bool) (x : Anomaly) : (s.flagIf c x).configured = s.configured := by cases c <;> rfl
@[simp] theorem flagIf_params (s : State) (c : Bool) (x : Anomaly) : (s.flagIf c x).params = s.params := by cases c <;> rfl
@[simp] theorem flagIf_env (s : State) (c : Bool) (x : Anomaly) : (s.flagIf c x).env = s.env := by cases c <;> rfl
@[simp] theorem flagIf_status (s : State) (c : Bool) (x : Anomaly) :
    (s.flagIf c x).status = if c then setFlag x s.status else s.status := by cases c <;> rfl

/-! ### Reset -/

@[simp] theorem resetCycle_seq (s : State) : s.resetCycle.seq = .idle := rfl
@[simp] theorem resetCycle_op (s : State) : s.resetCycle.op = 0 := rfl
@[simp] theorem resetCycle_opa (s : State) : s.resetCycle.opa = 0x00 := rfl
@[simp] theorem resetCycle_opb (s : State) : s.resetCycle.opb = 0x00 := rfl
@[simp] theorem resetCycle_clkPin (s : State) : s.resetCycle.clkPin = 0x00 := rfl
@[simp] theorem resetCycle_datPin (s : State) : s.resetCycle.datPin = 0x00 := rfl
@[simp] theorem resetCycle_clkCell (s : State) : s.resetCycle.clkCell = Cell.released := rfl
@[simp] theorem resetCycle_datCell (s : State) : s.resetCycle.datCell = Cell.released := rfl
@[simp] theorem resetCycle_par (s : State) : s.resetCycle.par = false := rfl
@[simp] theorem resetCycle_acc (s : State) : s.resetCycle.acc = 0x00 := rfl
@[simp] theorem resetCycle_bitCnt (s : State) : s.resetCycle.bitCnt = 0 := rfl
@[simp] theorem resetCycle_dly (s : State) : s.resetCycle.dly = 0 := rfl
@[simp] theorem resetCycle_status (s : State) : s.resetCycle.status = 0b000 := rfl
@[simp] theorem resetCycle_rxData (s : State) : s.resetCycle.rxData = 0x00 := rfl
@[simp] theorem resetCycle_configured (s : State) : s.resetCycle.configured = false := rfl
@[simp] theorem resetCycle_params (s : State) : s.resetCycle.params = s.params := rfl
@[simp] theorem resetCycle_env (s : State) : s.resetCycle.env = s.env.advance := rfl

end Sys2Proof.Machine
end

