-- ==== Sys2Proof/Laws/Wires.lean ====
section
/-! SUPPORT. The wires and the inputs of a cycle: who pulls, what a line reads, and what the next cycle's inputs are. -/

namespace Sys2Proof.Machine

/-- A released cell does not pull. -/
@[simp] theorem released_pulls : Cell.released.pulls = false := rfl

/-- Only a cell in `OUT` mode with latch 0 pulls (spec 20_memory.md R50). -/
theorem pulls_iff (c : Cell) : c.pulls = true ↔ c.mode = .out ∧ c.latch = false := by
  obtain ⟨m, v⟩ := c
  cases m <;> cases v <;> simp [Cell.pulls]

/-- A line is low iff somebody pulls it (R51). -/
theorem level_eq_false_iff (s : State) (l : Line) : s.level l = false ↔ s.enginePull l = true ∨ s.env.pull l = true := by
  unfold State.level resolve
  cases s.enginePull l <;> cases s.env.pull l <;> simp

/-- A line the engine does not pull has the level the peripheral gives it (R51). -/
theorem level_of_not_pulled {s : State} {l : Line} (h : s.enginePull l = false) : s.level l = !s.env.pull l := by
  simp [State.level, resolve, h]

@[simp] theorem pull_cons_clk (h : List HostIn) (p : Pulls) (ps : List Pulls) (t : Nat) :
    (Env.mk h (p :: ps) t).pull .clk = p.clk := rfl
@[simp] theorem pull_cons_dat (h : List HostIn) (p : Pulls) (ps : List Pulls) (t : Nat) :
    (Env.mk h (p :: ps) t).pull .dat = p.dat := rfl
@[simp] theorem advance_cons (h : List HostIn) (p : Pulls) (ps : List Pulls) (t : Nat) :
    (Env.mk h (p :: ps) t).advance = ⟨h.tail, ps, t⟩ := rfl
@[simp] theorem advance_host (e : Env) : e.advance.host = e.host.tail := by
  obtain ⟨h, ps, t⟩ := e
  cases ps <;> rfl

/-- A host that never resets does not reset in this cycle. -/
theorem hostNow_rst_of_noReset {e : Env} (h : e.noReset) : e.hostNow.rst = false := by
  obtain ⟨hs, ps, t⟩ := e
  cases hs with
  | nil => rfl
  | cons x xs => exact h x (by simp)

/-- A host that never resets never resets later. -/
theorem noReset_advance {e : Env} (h : e.noReset) : e.advance.noReset := by
  intro x hx
  rw [advance_host] at hx
  exact h x (List.mem_of_mem_tail hx)

end Sys2Proof.Machine
end

