-- ==== Sys2Proof/Laws/Step.lean ====
section
/-! SUPPORT. What a presented command, a wait, a cycle, a step and a run can do: one lemma each, which later proofs cite. -/

namespace Sys2Proof.Machine

/-! ### The shared operations -/

/-- A wait that is not satisfied changes nothing (spec 44_line_primitives.md R174). -/
theorem waitPinThen_blocked {s : State} {l : Line} {v : Bool} (f : State → State) (h : s.level l ≠ v) :
    s.waitPinThen l v f = s := by
  simp [State.waitPinThen, State.pinRead, h]

/-- A wait that is satisfied has its effect (R174). -/
theorem waitPinThen_done {s : State} {l : Line} {v : Bool} (f : State → State) (h : s.level l = v) :
    s.waitPinThen l v f = f s := by
  simp [State.waitPinThen, State.pinRead, h]

/-- All that a delay can do (R173, 41_send.md R124). -/
theorem delay_cases (s : State) (q : SeqState) :
    (s.dly = 0 ∧ s.delay q = s.goto q) ∨ (s.dly ≠ 0 ∧ s.delay q = { s with dly := s.dly - 1 }) := by
  by_cases h : s.dly = 0 <;> simp [State.delay, h]

/-- A presented command is accepted (10_state.md R37). -/
theorem present_accepted {s : State} (h : s.seq = .idle) (t : State) : s.present none t = .next t.endCycle := by
  simp [State.present, h]

/-- A presented command is refused only while the engine is idle. -/
theorem present_refused {s : State} (h : s.seq = .idle) (r : Refusal) (t : State) : s.present (some r) t = .refused r := by
  simp [State.present, h]

/-- A command presented while the engine is busy is ignored (R37). -/
theorem present_busy {s : State} (h : s.seq ≠ .idle) (o : Option Refusal) (t : State) : s.present o t = .next s.runCycle := by
  simp [State.present, h]

/-- What a busy engine does with any command that is presented: nothing but go on (R37). -/
theorem exec_busy {s : State} (h : s.seq ≠ .idle) (i : Instr) : exec i s = .next s.runCycle := by
  cases i <;> simp [exec, execConfig, execSend, execRecv, execSendcmd, present_busy h]

/-- No binding refusal means a completed CONFIG with two different valid identifiers (40_configure.md R112, R113). -/
theorem bindingRefusal_none_iff (s : State) :
    s.bindingRefusal = none ↔ s.configured = true ∧ s.clkPin ≠ s.datPin ∧
      s.params.validPins.has s.clkPin = true ∧ s.params.validPins.has s.datPin = true := by
  unfold State.bindingRefusal
  by_cases hc : s.configured <;> by_cases hp : s.clkPin = s.datPin <;>
    cases hk : s.params.validPins.has s.clkPin <;> cases hd : s.params.validPins.has s.datPin <;> simp [hc, hp]

/-- SEND and SENDCMD also ask for lawful parameters (70_reset_and_hazards.md R228). -/
theorem sendingRefusal_none_iff (s : State) :
    s.sendingRefusal = none ↔ s.bindingRefusal = none ∧ s.params.lawful = true := by
  unfold State.sendingRefusal
  cases s.bindingRefusal <;> simp

/-! ### A step -/

/-- All that a step can do when it answers a next state: reset; accept a command in IDLE; or one cycle of the current state. -/
theorem step_cases {s t : State} (h : step s = .next t) :
    (s.env.hostNow.rst = true ∧ t = s.resetCycle) ∨
    (s.env.hostNow.rst = false ∧ s.env.hostNow.cmdValid = true ∧ s.seq = .idle ∧ exec (decode s.env.hostNow.cmd) s = .next t) ∨
    (s.env.hostNow.rst = false ∧ (s.seq = .idle → s.env.hostNow.cmdValid = false) ∧ t = s.runCycle) := by
  unfold step at h
  cases hr : s.env.hostNow.rst with
  | true => simp [hr] at h; exact .inl ⟨rfl, h.symm⟩
  | false =>
    cases hv : s.env.hostNow.cmdValid with
    | false => simp [hr, hv] at h; exact .inr (.inr ⟨rfl, fun _ => rfl, h.symm⟩)
    | true =>
      simp [hr, hv] at h
      by_cases hi : s.seq = .idle
      · exact .inr (.inl ⟨rfl, rfl, hi, h⟩)
      · rw [exec_busy hi] at h
        cases h
        exact .inr (.inr ⟨rfl, fun x => absurd x hi, rfl⟩)

/-- All that an accepted command does in IDLE (R37): its word's fields go to `OP`, `OPA`, `OPB`, STATUS is cleared, and `SEQ` names
its first state; a command on the lines had no reason to be refused. -/
theorem exec_idle_cases {i : Instr} {s t : State} (hi : s.seq = .idle) (h : exec i s = .next t) :
    (∃ clk dat, i = .config clk dat ∧ t = (s.accept 0 clk dat .cfgStore).endCycle) ∨
    (∃ v b, i = .send v b ∧ s.sendingRefusal = none ∧ t = (s.accept 1 v b .txParity).endCycle) ∨
    (∃ a b, i = .recv a b ∧ s.bindingRefusal = none ∧ t = (s.accept 2 a b .rxWaitStart).endCycle) ∨
    (∃ c b, i = .sendcmd c b ∧ s.sendingRefusal = none ∧ t = (s.accept 3 c b .txParity).endCycle) := by
  cases i with
  | config clk dat =>
    refine .inl ⟨clk, dat, rfl, ?_⟩
    simpa [exec, execConfig, present_accepted hi] using h.symm
  | send v b =>
    cases hr : s.sendingRefusal with
    | some r => simp [exec, execSend, hr, present_refused hi] at h
    | none => exact .inr (.inl ⟨v, b, rfl, rfl, by simpa [exec, execSend, hr, present_accepted hi] using h.symm⟩)
  | recv a b =>
    cases hr : s.bindingRefusal with
    | some r => simp [exec, execRecv, hr, present_refused hi] at h
    | none => exact .inr (.inr (.inl ⟨a, b, rfl, rfl, by simpa [exec, execRecv, hr, present_accepted hi] using h.symm⟩))
  | sendcmd c b =>
    cases hr : s.sendingRefusal with
    | some r => simp [exec, execSendcmd, hr, present_refused hi] at h
    | none => exact .inr (.inr (.inr ⟨c, b, rfl, rfl, by simpa [exec, execSendcmd, hr, present_accepted hi] using h.symm⟩))

/-- A busy engine that is not reset does one cycle of its current state, whatever is presented (R37, R46). -/
theorem step_busy {s : State} (hr : s.env.hostNow.rst = false) (hb : s.seq ≠ .idle) : step s = .next s.runCycle := by
  unfold step
  cases s.env.hostNow.cmdValid <;> simp [hr, exec_busy hb]

/-! ### Runs -/

@[simp] theorem run_zero (s : State) : run 0 s = .next s := rfl

theorem run_succ_next {s t : State} (n : Nat) (h : step s = .next t) : run (n + 1) s = run n t := by
  simp [run, h]

/-- A run cut in two. -/
theorem run_add (m n : Nat) {s t : State} (h : run m s = .next t) : run (m + n) s = run n t := by
  induction m generalizing s with
  | zero => cases h; simp
  | succ m ih =>
    rw [Nat.add_right_comm]
    cases hs : step s with
    | next u => simp only [run, hs] at h ⊢; exact ih h
    | fault r => exact r.casesOn
    | refused r => simp [run, hs] at h

/-- A property that every step keeps holds all along a run. -/
theorem run_keeps {P : State → Prop} (hstep : ∀ s t, P s → step s = .next t → P t) {n : Nat} {s t : State} (hs : P s)
    (h : run n s = .next t) : P t := by
  induction n generalizing s with
  | zero => cases h; exact hs
  | succ n ih =>
    cases hst : step s with
    | next u => simp only [run, hst] at h; exact ih (hstep s u hs hst) h
    | fault r => exact r.casesOn
    | refused r => simp [run, hst] at h

end Sys2Proof.Machine
end

