-- ==== Sys2Proof/Tests/Slice0.lean ====
section
/-! SUPPORT. The model's own tests, whose expected results are taken from the spec (each test names its source), and for each
statement with hypotheses a witness: concrete states and operands that meet them. -/

namespace Sys2Proof.Tests

open Sys2Proof Sys2Proof.Machine

/-! ### Small states -/

/-- Parameters with a hold of one cycle, which keeps the witnesses short, and two valid identifiers. -/
def quick : Params := { inhibitUs := 1, inhibitMinUs := 1, cyclesPerUs := 1, validPins := .only [0x05, 0x06] }

/-- The spec's start state S1 (95_test_vectors.md, section 0), in the sequencer state `q`, with this cycle's inputs. -/
def inState (q : SeqState) (h : HostIn) (p : Pulls) : State :=
  { State.reset with
    seq := q, opa := 0x05, opb := 0x06, clkPin := 0x05, datPin := 0x06, configured := true, env := ⟨[h], [p], 0⟩ }

/-- The same with a quiet host and the peripheral's pulls `p`. -/
def polled (q : SeqState) (p : Pulls) : State := inState q HostIn.quiet p

/-- An idle engine, ready for a command on the lines, with `quick` parameters and these pulls to come. -/
def ready (ps : List Pulls) : State := { polled .idle ⟨false, false⟩ with params := quick, env := ⟨[], ps, 0⟩ }

/-- The state a step leaves, if it leaves one. -/
def after (s : State) : Option State :=
  match step s with
  | .next t => some t
  | .fault _ => none
  | .refused _ => none

/-- The refusal a step ends in, if it ends in one. -/
def refusalOf (s : State) : Option Refusal :=
  match step s with
  | .next _ => none
  | .fault _ => none
  | .refused r => some r

def pullNothing : Pulls := ⟨false, false⟩
def pullClk : Pulls := ⟨true, false⟩
def pullDat : Pulls := ⟨false, true⟩
def presents (w : CmdWord) : HostIn := ⟨false, true, w⟩

/-! ### Well-formedness: the form the assembler of R85 writes (V11's words are commands, but not in that form) -/

theorem test_assemblerForm_refuses_send : (Instr.send 0xF4 0xFF).assemblerForm = false := by decide
theorem test_assemblerForm_refuses_recv_a : (Instr.recv 0xAB 0x00).assemblerForm = false := by decide
theorem test_assemblerForm_refuses_recv_b : (Instr.recv 0x00 0xCD).assemblerForm = false := by decide
theorem test_assemblerForm_refuses_sendcmd : (Instr.sendcmd 0xFF 0xFF).assemblerForm = false := by decide
theorem test_assemblerForm_takes_sendcmd : (Instr.sendcmd 0xFF 0x00).assemblerForm = true := by decide

/-! ### Decoding: words written out from R82's encodings (op, a, b), vectors V10 and V11 -/

theorem test_decode_config : decode 0b00_00000101_00000110#18 = .config 0x05 0x06 := by decide
theorem test_decode_send : decode 0b01_11110100_00000000#18 = .send 0xF4 0x00 := by decide
theorem test_decode_recv : decode 0b10_10101011_11001101#18 = .recv 0xAB 0xCD := by decide
theorem test_decode_sendcmd : decode 0b11_11111111_00000000#18 = .sendcmd 0xFF 0x00 := by decide
theorem test_encode_config : encode (.config 255 254) = 0x0FFFE#18 := by decide
theorem test_encode_sendcmd : encode (.sendcmd 0xE8 0x00) = 0x3E800#18 := by decide
theorem test_decodeTableWord : decodeTableWord 24 0x1F4FF = some (.send 0xF4 0xFF) := by decide
theorem test_decodeTableWord_wide : decodeTableWord 24 0x40000 = none := by decide

/-! ### The assembler (V10; the bounds of R85) -/

theorem test_asm_config : assemble ['C', 'O', 'N', 'F', 'I', 'G', ' ', '2', '5', '5', ',', '2', '5', '4'] = some 0x0FFFE#18 := by decide
theorem test_asm_symbol : (AsmLine.sendcmd (.symbol .setResolution)).word? = some 0x3E800#18 := by decide
theorem test_asm_too_large : assemble ['S', 'E', 'N', 'D', ' ', '2', '5', '6'] = none := by decide

/-! ### Parity ROM and frames (V01, V03) -/

theorem test_parity_sent : parity 0xF4 = false := by decide
theorem test_parity_ack : parity 0xFA = true := by decide
theorem test_frame_reporting :
    frameCells 0xF4 = [false, false, false, true, false, true, true, true, true, false, true] := by decide
theorem test_resolution : countsPerMm 3 = 8 := by decide

/-! ### One step of each command (V14, V20, V30, V41), refusals and reset -/

theorem test_config_accepted :
    ((after (inState .idle (presents 0x0090A) pullNothing)).map fun t => (t.seq, t.op, t.opa, t.opb))
      = some (.cfgStore, 0, 0x09, 0x0A) := by decide
theorem test_config_stored :
    ((after { polled .cfgStore pullNothing with opa := 0x09, opb := 0x0A }).map fun t => (t.seq, t.clkPin, t.datPin))
      = some (.idle, 0x09, 0x0A) := by decide
theorem test_send_hold_loaded :
    ((after { polled .txInhibit pullNothing with clkCell := ⟨.out, true⟩ }).map fun t => (t.seq, t.dly, t.enginePull .clk))
      = some (.txHold, 149, true) := by decide
theorem test_send_bit_driven :
    ((after { polled .txBitDrive pullClk with opa := 0xF4, bitCnt := 2, datCell := ⟨.out, false⟩ }).map
      fun t => (t.seq, t.enginePull .dat)) = some (.txBitWh, false) := by decide
theorem test_recv_bit_sampled :
    ((after { polled .rxBitSample pullClk with acc := 0x2A, bitCnt := 7 }).map fun t => (t.seq, t.acc, t.bitCnt))
      = some (.rxParWh, 0xAA, 7) := by decide
theorem test_recv_parity_flagged :
    ((after { polled .rxParSample ⟨true, true⟩ with acc := 0x5A }).map fun t => (t.seq, t.status))
      = some (.rxStopWh, 0b010) := by decide
theorem test_sendcmd_goes_on :
    ((after { polled .txIdleClk pullNothing with op := 3 }).map State.seq) = some .rxWaitStart := by decide
theorem test_sendcmd_mismatch :
    ((after { polled .ackCheck pullNothing with op := 3, rxData := 0xFE }).map fun t => (t.seq, t.status))
      = some (.idle, 0b100) := by decide
theorem test_refused_unconfigured : refusalOf { State.reset with env := ⟨[presents 0x20000], [], 0⟩ } = some .notConfigured := by
  decide
theorem test_refused_same_pin :
    refusalOf { inState .idle (presents 0x1F400) pullNothing with clkPin := 0x07, datPin := 0x07 } = some .samePin := by decide
theorem test_reset_ignores_the_port :
    ((after (inState .txHold ⟨true, true, 0x1F400⟩ pullNothing)).map fun t => (t.seq, t.opa, t.configured))
      = some (.idle, 0x00, false) := by decide
theorem test_placed_word_runs_after_reset :
    ((after (State.reset.withFetchWord 24 0x3FF00)).map fun t => (t.seq, t.op, t.opa)) = some (.txParity, 3, 0xFF) := by decide

/-! ### Scripts that meet the plans -/

/-- The shortest pulls that fit a stretch. -/
def shortest : Stretch → List Pulls
  | .any n => List.replicate n pullNothing
  | .await .clk v => [⟨!v, false⟩]
  | .await .dat v => [⟨false, !v⟩]
  | .sample v => [⟨false, !v⟩]

theorem shortest_fits (x : Stretch) : x.Fits (shortest x) := by
  cases x with
  | any n => simp [Stretch.Fits, shortest]
  | await l v => cases l <;> cases v <;> exact ⟨[], _, rfl, by simp, rfl⟩
  | sample v => cases v <;> exact ⟨_, rfl, rfl⟩

theorem shortest_fits_all (xs : List Stretch) : Fits xs (xs.flatMap shortest) := by
  induction xs with
  | nil => rfl
  | cons x xs ih => exact ⟨_, _, rfl, shortest_fits x, ih⟩

/-- A bit cell with phases of two cycles (V3C). -/
def clocked (c : Bool) : List Pulls := [⟨false, !c⟩, ⟨false, !c⟩, ⟨true, !c⟩, ⟨true, !c⟩]

theorem clocked_cell (c : Bool) : ClockedCell c (clocked c) := by
  refine ⟨[⟨false, !c⟩, ⟨false, !c⟩], [⟨true, !c⟩, ⟨true, !c⟩], rfl, by simp, by simp, by simp, by simp, ?_⟩
  cases c <;> simp [Pulls.level, Pulls.pull, resolve]

theorem clocked_cells (cs : List Bool) : ClockedCells cs (cs.flatMap clocked) := by
  induction cs with
  | nil => rfl
  | cons c cs ih => exact ⟨_, _, rfl, clocked_cell c, ih⟩

theorem quiet_noReset (ps : List Pulls) : (ready ps).env.noReset := by simp [ready, Env.noReset]

/-! ### Witnesses: hypotheses that can be met -/

theorem witness_DecodeAndEncodeAgree : (Instr.recv 0xAB 0xCD).wellFormed = true := by decide

theorem witness_AssembledLinesDecode : (AsmLine.config (.number 5) (.number 6)).instr? = some (.config 5 6) := by decide

theorem witness_SequencerNumbersDiffer : SeqState.rxDone.code = SeqState.rxDone.code := rfl

theorem witness_StepRunsThePresentedCommand :
    ((inState .idle (presents 0x00506) pullNothing).env.hostNow.rst = false ∧
      (inState .idle (presents 0x00506) pullNothing).env.hostNow.cmdValid = true) ∧
    ((polled .txHold pullNothing).env.hostNow.rst = false ∧ (polled .txHold pullNothing).env.hostNow.cmdValid = false) := by
  decide

theorem witness_PlacedWordRuns :
    18 ≤ 24 ∧ 0x3FFFF < 2 ^ 18 ∧ (ready []).seq = .idle ∧ (ready []).bindingRefusal = none := by decide

theorem witness_ResetTakesEverything : (inState .txHold ⟨true, true, 0x1F400⟩ pullNothing).env.hostNow.rst = true := by decide

theorem witness_AcceptanceLatchesTheWord :
    ((ready []).seq = .idle ∧ (ready []).sendingRefusal = none ∧ (ready []).bindingRefusal = none) ∧
    ((polled .idle pullClk).seq = .idle ∧ (polled .idle pullClk).env.hostNow.rst = false ∧
      (polled .idle pullClk).env.hostNow.cmdValid = false) ∧
    (polled .ackCheck pullNothing).seq ≠ .idle := by decide

theorem witness_LineCommandsNeedABinding :
    (State.reset.seq = .idle ∧ State.reset.configured = false) ∧
    ({ ready [] with datPin := 0x05 }.seq = .idle ∧ { ready [] with datPin := 0x05 }.configured = true ∧
      { ready [] with datPin := 0x05 }.clkPin = { ready [] with datPin := 0x05 }.datPin) ∧
    ({ ready [] with datPin := 0x07 }.seq = .idle ∧ { ready [] with datPin := 0x07 }.configured = true ∧
      { ready [] with datPin := 0x07 }.clkPin ≠ { ready [] with datPin := 0x07 }.datPin ∧
      { ready [] with datPin := 0x07 }.params.validPins.has { ready [] with datPin := 0x07 }.datPin = false) ∧
    ({ ready [] with clkPin := 0x07 }.clkPin ≠ { ready [] with clkPin := 0x07 }.datPin ∧
      { ready [] with clkPin := 0x07 }.params.validPins.has { ready [] with clkPin := 0x07 }.clkPin = false) := by decide

/-- The hold one microsecond short of the protocol's minimum, and a clock of 0 cycles a microsecond. -/
theorem witness_SendingNeedsLawfulParameters :
    ({ ready [] with params := { quick with inhibitUs := 99, inhibitMinUs := 100 } }.seq = .idle ∧
      { ready [] with params := { quick with inhibitUs := 99, inhibitMinUs := 100 } }.bindingRefusal = none ∧
      ({ quick with inhibitUs := 99, inhibitMinUs := 100 } : Params).inhibitUs < 100) ∧
    ({ ready [] with params := { quick with cyclesPerUs := 0 } }.seq = .idle ∧
      { ready [] with params := { quick with cyclesPerUs := 0 } }.bindingRefusal = none ∧
      ({ quick with cyclesPerUs := 0 } : Params).inhibitCycles = 0) := by decide

theorem witness_RefusedOnlyAtAcceptance :
    step { State.reset with env := ⟨[presents 0x20000], [], 0⟩ } = .refused .notConfigured := by rfl

theorem witness_ParametersNeverChange : step (polled .idle pullNothing) = .next (polled .idle pullNothing).runCycle := by rfl

theorem witness_ConfigStoresBothPins : State.reset.seq = .idle ∧ State.reset.env.advance.hostNow.rst = false := by decide

theorem witness_ConfigIsIdempotent :
    ∃ t u, State.reset.seq = .idle ∧ State.reset.env.noReset ∧ exec (.config 5 6) State.reset = .next t ∧ step t = .next u :=
  ⟨_, _, rfl, by simp [State.reset, Env.noReset], rfl, rfl⟩

theorem witness_WaitStatesPollTheirLine :
    ((polled .txBitWl pullNothing).env.hostNow.rst = false ∧ (polled .txBitWl pullNothing).seq.wait = some (.clk, false) ∧
      (polled .txBitWl pullNothing).level .clk ≠ false) ∧
    ((polled .txIdleDat pullClk).seq.wait = some (.dat, true) ∧ (polled .txIdleDat pullClk).level .dat = true) := by decide

theorem witness_UnmetWaitNeverEnds :
    (ready (silence 3)).env.noReset ∧ { ready (silence 3) with seq := .rxWaitStart }.seq.wait = some (.clk, false) ∧
    (ready (silence 3)).env.pulls = silence 3 ++ [] ∧
    ∀ p ∈ silence 3, resolve ((ready (silence 3)).enginePull .clk) (p.pull .clk) ≠ false :=
  ⟨quiet_noReset _, rfl, rfl, by decide⟩

theorem witness_TxParityLooksUpTheBit :
    (polled .txParity pullNothing).env.hostNow.rst = false ∧ (polled .txParity pullNothing).seq = .txParity := by decide

theorem witness_TxOutputModesClockFirst :
    ((polled .txOutClk pullNothing).env.hostNow.rst = false ∧ (polled .txOutClk pullNothing).seq = .txOutClk) ∧
    ((polled .txOutDat pullNothing).env.hostNow.rst = false ∧ (polled .txOutDat pullNothing).seq = .txOutDat) ∧
    ({ polled .txOutDat pullNothing with op := 1, clkCell := ⟨.out, true⟩, par := parity 0x05 }.Inv) := by decide

theorem witness_TxInhibitLoadsAndHolds :
    (polled .txInhibit pullNothing).env.hostNow.rst = false ∧
    ({ polled .txHold pullNothing with dly := 149 }.seq = .txHold ∧ { polled .txHold pullNothing with dly := 149 }.dly ≠ 0) ∧
    ((polled .txHold pullNothing).seq = .txHold ∧ (polled .txHold pullNothing).dly = 0) := by decide

theorem witness_InhibitHoldTiming :
    let s := { ready [] with seq := .txInhibit, clkCell := ⟨.out, true⟩, datCell := ⟨.out, true⟩ }
    s.seq = .txInhibit ∧ s.clkCell = ⟨.out, true⟩ ∧ s.datCell = ⟨.out, true⟩ ∧ s.env.noReset ∧ s.params.lawful = true ∧
      1 ≤ 1 ∧ 1 ≤ s.params.inhibitCycles :=
  ⟨rfl, rfl, rfl, quiet_noReset [], by decide, by decide, by decide⟩

theorem witness_TxStartBitThenClockRelease :
    ((polled .txStart pullNothing).env.hostNow.rst = false ∧ (polled .txStart pullNothing).seq = .txStart) ∧
    ((polled .txRelClk pullNothing).env.hostNow.rst = false ∧ (polled .txRelClk pullNothing).seq = .txRelClk) := by decide

theorem witness_TxDrivesDataBits :
    ((polled .txWaitDev pullClk).env.hostNow.rst = false ∧ (polled .txWaitDev pullClk).seq = .txWaitDev) ∧
    ((polled .txBitDrive pullNothing).env.hostNow.rst = false ∧ (polled .txBitDrive pullNothing).seq = .txBitDrive) ∧
    ((polled .txBitWh pullNothing).env.hostNow.rst = false ∧ (polled .txBitWh pullNothing).seq = .txBitWh) ∧
    ((polled .txBitWl pullClk).env.hostNow.rst = false ∧ (polled .txBitWl pullClk).seq = .txBitWl) ∧
    ({ polled .txBitWl pullClk with bitCnt := 7 }.bitCnt = 7 ∧ { polled .txBitWl pullClk with bitCnt := 6 }.bitCnt ≠ 7) := by decide

theorem witness_TxParityBitThenDataRelease :
    ((polled .txParDrive pullNothing).env.hostNow.rst = false ∧ (polled .txParDrive pullNothing).seq = .txParDrive) ∧
    ((polled .txParWh pullNothing).env.hostNow.rst = false ∧ (polled .txParWh pullNothing).seq = .txParWh) ∧
    ((polled .txParWl pullClk).env.hostNow.rst = false ∧ (polled .txParWl pullClk).seq = .txParWl) ∧
    ((polled .txRelDat pullNothing).env.hostNow.rst = false ∧ (polled .txRelDat pullNothing).seq = .txRelDat) := by decide

theorem witness_TxHandshakeWaits :
    ((polled .txAckDat pullDat).env.hostNow.rst = false ∧ (polled .txAckDat pullDat).seq = .txAckDat) ∧
    ((polled .txAckClk pullClk).env.hostNow.rst = false ∧ (polled .txAckClk pullClk).seq = .txAckClk) ∧
    ((polled .txIdleDat pullNothing).env.hostNow.rst = false ∧ (polled .txIdleDat pullNothing).seq = .txIdleDat) ∧
    ((polled .txIdleClk pullNothing).env.hostNow.rst = false ∧ (polled .txIdleClk pullNothing).seq = .txIdleClk) ∧
    ({ polled .txIdleClk pullNothing with op := 3 }.op = 3 ∧ { polled .txIdleClk pullNothing with op := 1 }.op ≠ 3) := by decide

theorem witness_RxSamplesTheStartBit :
    ((polled .rxWaitStart pullClk).env.hostNow.rst = false ∧ (polled .rxWaitStart pullClk).seq = .rxWaitStart) ∧
    ((polled .rxStart pullNothing).env.hostNow.rst = false ∧ (polled .rxStart pullNothing).seq = .rxStart) ∧
    ((polled .rxStart pullDat).level .dat = false ∧ (polled .rxStart pullClk).level .dat = true) := by decide

theorem witness_RxSamplesDataBits :
    ((polled .rxBitWh pullNothing).env.hostNow.rst = false ∧ (polled .rxBitWh pullNothing).seq = .rxBitWh) ∧
    ((polled .rxBitWl pullClk).env.hostNow.rst = false ∧ (polled .rxBitWl pullClk).seq = .rxBitWl) ∧
    ((polled .rxBitSample pullNothing).env.hostNow.rst = false ∧ (polled .rxBitSample pullNothing).seq = .rxBitSample) ∧
    ({ polled .rxBitSample pullClk with bitCnt := 7 }.bitCnt = 7 ∧ { polled .rxBitSample pullClk with bitCnt := 6 }.bitCnt ≠ 7) := by decide

theorem witness_RxChecksParityAndStop :
    ((polled .rxParWh pullNothing).env.hostNow.rst = false ∧ (polled .rxParWh pullNothing).seq = .rxParWh) ∧
    ((polled .rxParWl pullClk).env.hostNow.rst = false ∧ (polled .rxParWl pullClk).seq = .rxParWl) ∧
    ((polled .rxParSample pullNothing).env.hostNow.rst = false ∧ (polled .rxParSample pullNothing).seq = .rxParSample) ∧
    ((polled .rxStopWh pullNothing).env.hostNow.rst = false ∧ (polled .rxStopWh pullNothing).seq = .rxStopWh) ∧
    ((polled .rxStopWl pullClk).env.hostNow.rst = false ∧ (polled .rxStopWl pullClk).seq = .rxStopWl) ∧
    ((polled .rxStopSample pullNothing).env.hostNow.rst = false ∧ (polled .rxStopSample pullNothing).seq = .rxStopSample) := by decide

theorem witness_RxPublishesTheByte :
    ((polled .rxEndWh pullNothing).env.hostNow.rst = false ∧ (polled .rxEndWh pullNothing).seq = .rxEndWh) ∧
    ((polled .rxDone pullNothing).env.hostNow.rst = false ∧ (polled .rxDone pullNothing).seq = .rxDone) ∧
    ({ polled .rxDone pullNothing with op := 3 }.op = 3 ∧ { polled .rxDone pullNothing with op := 2 }.op ≠ 3) := by decide

theorem witness_AckCheckComparesTheByte :
    ((polled .ackCheck pullNothing).env.hostNow.rst = false ∧ (polled .ackCheck pullNothing).seq = .ackCheck) := by decide

theorem witness_SequencerMovesByTheTables :
    (polled .txBitWl pullClk).env.hostNow.rst = false ∧ (polled .txBitWl pullClk).seq ≠ .idle ∧
    step (polled .txBitWl pullClk) = .next (polled .txBitWl pullClk).runCycle :=
  ⟨by decide, by decide, rfl⟩

theorem witness_RegistersHaveTheirWriters :
    (polled .rxStart pullClk).env.hostNow.rst = false ∧ (polled .rxStart pullClk).seq ≠ .idle ∧
    step (polled .rxStart pullClk) = .next (polled .rxStart pullClk).runCycle :=
  ⟨by decide, by decide, rfl⟩

theorem witness_OneLineTouchedPerCycle :
    (polled .txRelDat pullClk).env.hostNow.rst = false ∧ (polled .txRelDat pullClk).seq ≠ .idle ∧
    step (polled .txRelDat pullClk) = .next (polled .txRelDat pullClk).runCycle :=
  ⟨by decide, by decide, rfl⟩

theorem witness_SuccessorsIgnoreData : step (polled .rxParSample pullClk) = .next (polled .rxParSample pullClk).runCycle := rfl

theorem witness_FlagsAreSticky :
    let s := { polled .rxStopSample pullClk with status := 0b010 }
    s.env.hostNow.rst = false ∧ ¬ (s.seq = .idle ∧ s.env.hostNow.cmdValid = true) ∧ step s = .next s.runCycle ∧
      hasFlag .pe s.status = true :=
  ⟨by decide, by decide, rfl, by decide⟩

theorem witness_FlagsComeFromTheirChecks :
    (polled .ackCheck pullNothing).env.hostNow.rst = false ∧
    step (polled .ackCheck pullNothing) = .next (polled .ackCheck pullNothing).runCycle ∧
    hasFlag .fe (polled .ackCheck pullNothing).status = false ∧ hasFlag .pe (polled .ackCheck pullNothing).status = false ∧
    hasFlag .am (polled .ackCheck pullNothing).status = false :=
  ⟨by decide, rfl, by decide, by decide, by decide⟩

theorem witness_StepKeepsTheInvariant : State.reset.Inv ∧ step State.reset = .next State.reset.runCycle :=
  ⟨by decide, rfl⟩

theorem witness_IdleReleasesBothLines : State.reset.Inv ∧ State.reset.seq = .idle := by decide

/-- A state of TX_WAIT_DEV that meets the invariant: the engine pulls the data line, which it owns. -/
theorem witness_EnginePullsOnlyItsOwnLines :
    let s := { polled .txWaitDev pullNothing with op := 1, datCell := ⟨.out, false⟩, par := parity 0x05 }
    s.Inv ∧ s.enginePull .dat = true ∧ s.seq.wait = some (.clk, false) := by decide

theorem witness_EnginePullsOnlyItsOwnLines_sampling :
    let s := { polled .rxStart pullNothing with op := 2 }
    s.Inv ∧ s.seq ∈ [SeqState.rxStart, .rxBitSample, .rxParSample, .rxStopSample] := by decide

theorem witness_SendRunsToItsEnd :
    ∃ (s : State) (p : Pulls) (script later : List Pulls), s.seq = .idle ∧ s.released ∧ s.sendingRefusal = none ∧
      s.env.noReset ∧ s.env.pulls = p :: (script ++ later) ∧ Fits (sendPlan s.params.inhibitCycles) script :=
  ⟨ready (pullNothing :: ((sendPlan 1).flatMap shortest ++ [])), pullNothing, _, [], rfl, ⟨rfl, rfl⟩, rfl, quiet_noReset _,
    rfl, shortest_fits_all _⟩

theorem witness_SendPutsTheFrameOnTheWire :
    ∃ (s : State) (p : Pulls) (setup later : List Pulls) (gap low : Nat) (phases : List (Nat × Nat)),
      s.seq = .idle ∧ s.released ∧ s.sendingRefusal = none ∧ s.env.noReset ∧ setup.length = 6 + s.params.inhibitCycles ∧
      1 ≤ gap ∧ 3 ≤ low ∧ longEnough phases ∧ phases.length ≤ 9 ∧
      s.env.pulls = p :: (setup ++ silence gap ++ clockPulses phases ++ clockLow low ++ later) :=
  ⟨ready (pullNothing :: (silence 7 ++ silence 1 ++ clockPulses (List.replicate 9 (3, 2)) ++ clockLow 3 ++ [])), pullNothing,
    silence 7, [], 1, 3, List.replicate 9 (3, 2), rfl, ⟨rfl, rfl⟩, rfl, quiet_noReset _, rfl, by decide, by decide,
    by simp [longEnough], by decide, rfl⟩

theorem witness_RecvRunsToItsEnd :
    ∃ (s : State) (p : Pulls) (script later : List Pulls), s.seq = .idle ∧ s.released ∧ s.bindingRefusal = none ∧
      s.env.noReset ∧ s.env.pulls = p :: (script ++ later) ∧ Fits (recvPlan true 0x5A false false) script :=
  ⟨ready (pullNothing :: ((recvPlan true 0x5A false false).flatMap shortest ++ [])), pullNothing, _, [], rfl, ⟨rfl, rfl⟩, rfl,
    quiet_noReset _, rfl, shortest_fits_all _⟩

theorem witness_RecvTakesClockedCells (v : Byte) (start par stop : Bool) :
    ∃ (s : State) (p q q' : Pulls) (frame later : List Pulls), s.seq = .idle ∧ s.released ∧ s.bindingRefusal = none ∧
      s.env.noReset ∧ s.env.pulls = p :: (frame ++ [q, q'] ++ later) ∧ q.clk = false ∧
      ClockedCells (start :: dataCells v ++ [par, stop]) frame :=
  ⟨ready (pullNothing :: ((start :: dataCells v ++ [par, stop]).flatMap clocked ++ [pullNothing, pullNothing] ++ [])), pullNothing,
    pullNothing, pullNothing, _, [], rfl, ⟨rfl, rfl⟩, rfl, quiet_noReset _, rfl, rfl, clocked_cells _⟩

theorem witness_ReceivedFrameGivesTheByte (v : Byte) :
    ∃ (s : State) (p q q' : Pulls) (frame later : List Pulls), s.seq = .idle ∧ s.released ∧ s.bindingRefusal = none ∧
      s.env.noReset ∧ s.env.pulls = p :: (frame ++ [q, q'] ++ later) ∧ q.clk = false ∧ ClockedCells (frameCells v) frame :=
  witness_RecvTakesClockedCells v false (parity v) true

theorem witness_SendcmdRunsToItsEnd :
    ∃ (s : State) (p : Pulls) (script later : List Pulls), s.seq = .idle ∧ s.released ∧ s.sendingRefusal = none ∧
      s.env.noReset ∧ s.env.pulls = p :: (script ++ later) ∧
      Fits (sendcmdPlan s.params.inhibitCycles false 0xFA true true) script :=
  ⟨ready (pullNothing :: ((sendcmdPlan 1 false 0xFA true true).flatMap shortest ++ [])), pullNothing, _, [], rfl, ⟨rfl, rfl⟩, rfl,
    quiet_noReset _, rfl, shortest_fits_all _⟩

/-- A SEND, a RECV and a SENDCMD that end in the least number of cycles, 1 + 39, 34 and 1 + 74. -/
theorem witness_CommandsTakeTheirMinimum :
    (∃ (s t u : State), s.seq = .idle ∧ s.env.noReset ∧ s.params.inhibitCycles = 1 ∧ run 40 t = .next u ∧ u.seq = .idle ∧
      exec (.send 0xF4 0x00) s = .next t) ∧
    (∃ (s t u : State), s.seq = .idle ∧ s.env.noReset ∧ run 34 t = .next u ∧ u.seq = .idle ∧
      exec (.recv 0x00 0x00) s = .next t) ∧
    (∃ (s t u : State), s.seq = .idle ∧ s.env.noReset ∧ s.params.inhibitCycles = 1 ∧ run 75 t = .next u ∧ u.seq = .idle ∧
      exec (.sendcmd 0xFF 0x00) s = .next t) :=
  ⟨⟨ready (pullNothing :: (sendPlan 1).flatMap shortest), _, _, rfl, quiet_noReset _, rfl, rfl, rfl, rfl⟩,
    ⟨ready (pullNothing :: (recvPlan false 0xAA true true).flatMap shortest), _, _, rfl, quiet_noReset _, rfl, rfl, rfl⟩,
    ⟨ready (pullNothing :: (sendcmdPlan 1 false 0xFA true true).flatMap shortest), _, _, rfl, quiet_noReset _, rfl, rfl, rfl, rfl⟩⟩

theorem witness_IgnoredOperandsMakeNoDifference :
    ∃ t₁ t₂ t₃ u, (ready []).seq = .idle ∧ exec (.send 0xF4 0xFF) (ready []) = .next t₁ ∧
      exec (.sendcmd 0xFF 0xFF) (ready []) = .next t₂ ∧ exec (.recv 0xAB 0xCD) (ready []) = .next t₃ ∧ run 3 t₁ = .next u :=
  ⟨_, _, _, _, rfl, rfl, rfl, rfl, rfl⟩

end Sys2Proof.Tests
end

section
/-! The reasons a step can be refused, and the frame of the parameters over every cycle (spec 00_scope.md R5, R10). -/

namespace Sys2Proof.Machine

/-! ### What a refusal says -/

/-- What each refusal of a command on the lines says of the binding (40_configure.md R112, R113). -/
theorem bindingRefusal_some {s : State} {r : Refusal} (h : s.bindingRefusal = some r) :
    (r = .notConfigured ∧ s.configured = false) ∨ (r = .samePin ∧ s.clkPin = s.datPin) ∨
    (r = .invalidPin ∧ (s.params.validPins.has s.clkPin = false ∨ s.params.validPins.has s.datPin = false)) := by
  unfold State.bindingRefusal at h
  split at h
  next hc => exact .inl ⟨by simpa using h.symm, by simpa using hc⟩
  next =>
    split at h
    next hp => exact .inr (.inl ⟨by simpa using h.symm, by simpa using hp⟩)
    next =>
      split at h
      next hv =>
        rw [Bool.not_eq_true', Bool.and_eq_false_iff] at hv
        exact .inr (.inr ⟨by simpa using h.symm, hv⟩)
      next => cases h

/-- Parameters outside the spec break one of the two constraints (41_send.md R124, 70_reset_and_hazards.md R228). -/
theorem lawful_eq_false_iff (p : Params) : p.lawful = false ↔ p.inhibitUs < p.inhibitMinUs ∨ p.inhibitCycles = 0 := by
  simp [Params.lawful, imp_iff_not_or]

/-- A sending command is refused as any command on the lines, or for the parameters (R228). -/
theorem sendingRefusal_some {s : State} {r : Refusal} (h : s.sendingRefusal = some r) :
    s.bindingRefusal = some r ∨ (r = .unlawfulParameters ∧ s.params.lawful = false) := by
  unfold State.sendingRefusal at h
  split at h
  next r' hb => exact .inl (hb.trans h)
  next =>
    split at h
    next => cases h
    next hl => exact .inr ⟨by simpa using h.symm, by simpa using hl⟩

/-! ### When a command and a step are refused -/

/-- A presented command that is refused had a reason, and the engine was idle (10_state.md R37). -/
theorem present_eq_refused {s t : State} {o : Option Refusal} {r : Refusal} (h : s.present o t = .refused r) :
    s.seq = .idle ∧ o = some r := by
  by_cases hi : s.seq = .idle
  · cases o with
    | none => rw [present_accepted hi] at h; cases h
    | some r' => rw [present_refused hi] at h; cases h; exact ⟨hi, rfl⟩
  · rw [present_busy hi] at h; cases h

/-- All that a refused command can be: not CONFIG, and only SEND or SENDCMD if the parameters are the reason. -/
theorem exec_refused_cases {i : Instr} {s : State} {r : Refusal} (h : exec i s = .refused r) :
    s.seq = .idle ∧ i.opcode ≠ 0 ∧
      (s.bindingRefusal = some r ∨ (r = .unlawfulParameters ∧ i.opcode ≠ 2 ∧ s.params.lawful = false)) := by
  cases i with
  | config clk dat =>
    obtain ⟨-, hr⟩ := present_eq_refused (o := none) h
    cases hr
  | send v b =>
    obtain ⟨hi, hr⟩ := present_eq_refused h
    exact ⟨hi, by simp [Instr.opcode], (sendingRefusal_some hr).imp_right fun ⟨hu, hl⟩ => ⟨hu, by simp [Instr.opcode], hl⟩⟩
  | recv a b =>
    obtain ⟨hi, hr⟩ := present_eq_refused h
    exact ⟨hi, by simp [Instr.opcode], .inl hr⟩
  | sendcmd c b =>
    obtain ⟨hi, hr⟩ := present_eq_refused h
    exact ⟨hi, by simp [Instr.opcode], (sendingRefusal_some hr).imp_right fun ⟨hu, hl⟩ => ⟨hu, by simp [Instr.opcode], hl⟩⟩

/-- A refused step is a cycle without reset in which a command is presented and refused. -/
theorem step_refused_cases {s : State} {r : Refusal} (h : step s = .refused r) :
    s.env.hostNow.rst = false ∧ s.env.hostNow.cmdValid = true ∧ exec (decode s.env.hostNow.cmd) s = .refused r := by
  unfold step at h
  split at h
  next => cases h
  next hr =>
    split at h
    next hv => exact ⟨by simpa using hr, hv, h⟩
    next => cases h

/-- Settles O13: a refused step refuses the presented command, and each refusal of a command has a true reason. -/
theorem refusedOnlyAtAcceptance : Obligations.RefusedOnlyAtAcceptance := by
  intro s r h
  obtain ⟨hrst, hvalid, hexec⟩ := step_refused_cases h
  obtain ⟨hidle, hop, hreason⟩ := exec_refused_cases hexec
  refine ⟨hrst, hvalid, hidle, hop, ?_⟩
  obtain hb | ⟨hr, hsend, hl⟩ := hreason
  · exact (bindingRefusal_some hb).imp_right (Or.imp_right .inl)
  · exact .inr (.inr (.inr ⟨hr, hsend, (lawful_eq_false_iff _).mp hl⟩))

/-! ### The parameters are kept -/

/-- A wait keeps the parameters if its effect on success does. -/
theorem waitPinThen_params {s : State} (l : Line) (v : Bool) {f : State → State} (hf : (f s).params = s.params) :
    (s.waitPinThen l v f).params = s.params := by
  by_cases h : s.level l = v
  · rw [waitPinThen_done f h, hf]
  · rw [waitPinThen_blocked f h]

@[simp] theorem waitPin_params (s : State) (l : Line) (v : Bool) (q : SeqState) : (s.waitPin l v q).params = s.params :=
  waitPinThen_params l v rfl

@[simp] theorem delay_params (s : State) (q : SeqState) : (s.delay q).params = s.params := by
  obtain ⟨-, h⟩ | ⟨-, h⟩ := delay_cases s q <;> rw [h]
  rfl

/-- TX_BIT_WL keeps the parameters at the last bit as at any other (41_send.md R128). -/
@[simp] theorem txBitWl_params (s : State) : (txBitWl s).params = s.params := by
  refine waitPinThen_params .clk false ?_
  split <;> rfl

/-- RX_BIT_SAMPLE keeps the parameters at the last bit as at any other (42_receive.md R143). -/
@[simp] theorem rxBitSample_params (s : State) : (rxBitSample s).params = s.params := by
  unfold rxBitSample
  split <;> rfl

/-- No sequencer state's action writes the parameters: they are no register (00_scope.md R5, 10_state.md R20). -/
@[simp] theorem microStep_params (s : State) : (microStep s).params = s.params := by
  unfold microStep
  cases s.seq with
  | idle | cfgStore | txParity | rxDone => rfl
  | txBitWl | rxBitSample => simp
  | txOutClk | txOutDat | txRelClk | txRelDat => simp [txOutClk, txOutDat, txRelClk, txRelDat]
  | txInhibit | txStart | txBitDrive | txParDrive => simp [txInhibit, txStart, txBitDrive, txParDrive]
  | txHold => simp [txHold]
  | rxStart | rxParSample | rxStopSample | ackCheck => simp [rxStart, rxParSample, rxStopSample, ackCheck]
  | txWaitDev | txBitWh | txParWh | txParWl | txAckDat | txAckClk | txIdleDat | txIdleClk => exact waitPin_params ..
  | rxWaitStart | rxBitWh | rxBitWl | rxParWh | rxParWl | rxStopWh | rxStopWl | rxEndWh => exact waitPin_params ..

@[simp] theorem runCycle_params (s : State) : s.runCycle.params = s.params := microStep_params s

/-- Settles O14, by the three things a step can do: reset, accept a command, run a cycle of the current state. -/
theorem parametersNeverChange : Obligations.ParametersNeverChange := by
  intro s t h
  obtain ⟨-, rfl⟩ | ⟨-, -, hi, hexec⟩ | ⟨-, -, rfl⟩ := step_cases h
  · exact resetCycle_params s
  · obtain ⟨_, _, -, rfl⟩ | ⟨_, _, -, -, rfl⟩ | ⟨_, _, -, -, rfl⟩ | ⟨_, _, -, -, rfl⟩ := exec_idle_cases hi hexec <;> rfl
  · exact runCycle_params s

end Sys2Proof.Machine
end

section
/-! What one cycle of a sequencer state can do: where `SEQ` goes, which registers are written and which flags are set (spec
10_state.md R21 to R34, R46; 41_send.md R137; 42_receive.md R151). -/

namespace Sys2Proof.Machine

/-! ### The states with more than one outcome -/

/-- A wait without an effect of its own only moves `SEQ` (44_line_primitives.md R174). -/
theorem waitPin_eq_goto (s : State) (l : Line) (v : Bool) (q : SeqState) :
    s.waitPin l v q = s.goto (if s.level l = v then q else s.seq) := by
  unfold State.waitPin
  split
  next h => rw [waitPinThen_done _ h]
  next h => rw [waitPinThen_blocked _ h]; rfl

/-- All that a cycle of TX_BIT_WL can do (41_send.md R128). -/
theorem txBitWl_cases (s : State) :
    txBitWl s = s ∨ (s.bitCnt = 7 ∧ txBitWl s = s.goto .txParDrive) ∨
      (s.bitCnt ≠ 7 ∧ txBitWl s = { s with bitCnt := s.bitCnt + 1, seq := .txBitDrive }) := by
  unfold txBitWl
  by_cases hl : s.level .clk = false
  · rw [waitPinThen_done _ hl]
    by_cases h7 : s.bitCnt = 7#3 <;> simp [lastBit, h7]
  · exact .inl (waitPinThen_blocked _ hl)

/-- All that a cycle of RX_BIT_SAMPLE can do (42_receive.md R143). -/
theorem rxBitSample_cases (s : State) :
    (s.bitCnt = 7 ∧ rxBitSample s = { s with acc := placeBit s.acc s.bitCnt (s.pinRead .dat), seq := .rxParWh }) ∨
      (s.bitCnt ≠ 7 ∧ rxBitSample s =
        { s with acc := placeBit s.acc s.bitCnt (s.pinRead .dat), bitCnt := s.bitCnt + 1, seq := .rxBitWh }) := by
  by_cases h7 : s.bitCnt = 7#3 <;> simp [rxBitSample, lastBit, h7, State.goto]

/-! ### Where `SEQ` goes -/

/-- The states that can follow the current one: its successors of the tables, of which the last state of a transmission and of a
reception take the one that `OP` chooses (41_send.md R132, 42_receive.md R147). -/
def State.nextStates (s : State) : List SeqState :=
  match s.seq with
  | .txIdleClk => if s.op = 3 then [.rxWaitStart] else [.idle]
  | .rxDone => if s.op = 3 then [.ackCheck] else [.idle]
  | q => q.successors

theorem nextStates_subset_successors (s : State) : s.nextStates ⊆ s.seq.successors := by
  unfold State.nextStates
  split
  next hq => split <;> simp [hq, SeqState.successors]
  next hq => split <;> simp [hq, SeqState.successors]
  next => exact List.Subset.refl _

/-- A cycle of a wait state is a WAITPIN that goes on to a next state; TX_BIT_WL also counts the bit, so it is left out
(41_send.md R128). -/
theorem microStep_wait {s : State} {l : Line} {v : Bool} (hw : s.seq.wait = some (l, v)) (hl : s.seq ≠ .txBitWl) :
    ∃ q ∈ s.nextStates, microStep s = s.waitPin l v q := by
  cases hq : s.seq with
  | txBitWl => exact absurd hq hl
  | txIdleClk =>
    rw [hq] at hw
    cases hw
    refine ⟨if s.op == 3 then .rxWaitStart else .idle, ?_, by simp only [microStep, hq]; rfl⟩
    by_cases h3 : s.op = 3#2 <;> simp [State.nextStates, hq, h3]
  | txWaitDev | txBitWh | txParWh | txParWl | txAckDat | txAckClk | txIdleDat | rxWaitStart | rxBitWh | rxBitWl | rxParWh
  | rxParWl | rxStopWh | rxStopWl | rxEndWh =>
    rw [hq] at hw
    cases hw
    exact ⟨_, by simp only [State.nextStates, hq]; exact List.mem_singleton_self _, by simp only [microStep, hq]; rfl⟩
  | idle | cfgStore | txParity | txOutClk | txOutDat | txInhibit | txHold | txStart | txRelClk | txBitDrive | txParDrive
  | txRelDat | rxStart | rxBitSample | rxParSample | rxStopSample | rxDone | ackCheck =>
    rw [hq] at hw
    cases hw

/-- A cycle takes `SEQ` to a next state, or leaves it, which only a wait state, TX_HOLD and `IDLE` can (10_state.md R46;
41_send.md R137; 42_receive.md R151). -/
theorem microStep_seq (s : State) :
    (microStep s).seq ∈ s.nextStates ∨
      ((microStep s).seq = s.seq ∧ (s.seq.wait.isSome = true ∨ s.seq = .txHold ∨ s.seq = .idle)) := by
  by_cases hw : s.seq ≠ .txBitWl ∧ s.seq.wait.isSome = true
  · obtain ⟨⟨l, v⟩, hlv⟩ := Option.isSome_iff_exists.mp hw.2
    obtain ⟨q, hq, he⟩ := microStep_wait hlv hw.1
    rw [he, waitPin_eq_goto, goto_seq]
    split
    · exact .inl hq
    · exact .inr ⟨rfl, .inl hw.2⟩
  · unfold microStep State.nextStates
    cases hq : s.seq with
    | idle => exact .inr ⟨hq, .inr (.inr rfl)⟩
    | txHold =>
      obtain ⟨-, he⟩ | ⟨-, he⟩ := delay_cases s .txStart
      · exact .inl (by simp [txHold, he, SeqState.successors])
      · exact .inr ⟨by simp [txHold, he, hq], .inr (.inl rfl)⟩
    | txBitWl =>
      obtain he | ⟨-, he⟩ | ⟨-, he⟩ := txBitWl_cases s
      · exact .inr ⟨by simp [he, hq], .inl rfl⟩
      · exact .inl (by simp [he, SeqState.successors])
      · exact .inl (by simp [he, SeqState.successors])
    | rxBitSample =>
      obtain ⟨-, he⟩ | ⟨-, he⟩ := rxBitSample_cases s <;> exact .inl (by simp [he, SeqState.successors])
    | rxDone => by_cases h3 : s.op = 3#2 <;> exact .inl (by simp [rxDone, h3])
    | rxStart | rxParSample | rxStopSample | ackCheck =>
      exact .inl (by simp [rxStart, rxParSample, rxStopSample, ackCheck, SeqState.successors])
    | cfgStore | txParity | txOutClk | txOutDat | txInhibit | txStart | txRelClk | txBitDrive | txParDrive | txRelDat =>
      exact .inl (List.mem_singleton_self _)
    | _ => simp [hq, SeqState.wait] at hw

/-- What holds of a state, and of it moved to each of its next states, holds of it moved to where a cycle takes `SEQ`. -/
theorem goto_microStep_seq {P : State → Prop} {s : State} (hstay : P s) (hmove : ∀ q ∈ s.nextStates, P (s.goto q)) :
    P (s.goto (microStep s).seq) := by
  obtain hm | ⟨hm, -⟩ := microStep_seq s
  · exact hmove _ hm
  · rw [hm]
    exact hstay

/-! ### Which registers a cycle writes -/

/-- What a cycle from `s` leaves in `t`: each register, but in the states that write it (10_state.md R21 to R34). -/
structure CycleFrame (s t : State) : Prop where
  op : t.op = s.op
  opa : t.opa = s.opa
  opb : t.opb = s.opb
  clkPin : s.seq ≠ .cfgStore → t.clkPin = s.clkPin
  datPin : s.seq ≠ .cfgStore → t.datPin = s.datPin
  configured : s.seq ≠ .cfgStore → t.configured = s.configured
  clkCell : s.seq ∉ [.txOutClk, .txInhibit, .txRelClk] → t.clkCell = s.clkCell
  datCell : s.seq ∉ [.txOutDat, .txStart, .txBitDrive, .txParDrive, .txRelDat] → t.datCell = s.datCell
  par : s.seq ≠ .txParity → t.par = s.par
  acc : s.seq ∉ [.rxStart, .rxBitSample] → t.acc = s.acc
  bitCnt : s.seq ∉ [.txParity, .txBitWl, .rxStart, .rxBitSample] → t.bitCnt = s.bitCnt
  dly : s.seq ∉ [.txInhibit, .txHold] → t.dly = s.dly
  status : s.seq ∉ [.rxStart, .rxParSample, .rxStopSample, .ackCheck] → t.status = s.status
  rxData : s.seq ≠ .rxDone → t.rxData = s.rxData

/-- A cycle that only moves `SEQ` writes no register. -/
theorem CycleFrame.goto (s : State) (q : SeqState) : CycleFrame s (s.goto q) := by constructor <;> simp

/-- Every cycle leaves the registers that its state does not write. -/
theorem microStep_frame (s : State) : CycleFrame s (microStep s) := by
  by_cases hw : s.seq ≠ .txBitWl ∧ s.seq.wait.isSome = true
  · obtain ⟨⟨l, v⟩, hlv⟩ := Option.isSome_iff_exists.mp hw.2
    obtain ⟨q, -, he⟩ := microStep_wait hlv hw.1
    rw [he, waitPin_eq_goto]
    exact .goto s _
  · unfold microStep
    cases hq : s.seq with
    | idle => exact .goto s s.seq
    | txHold => obtain ⟨-, he⟩ | ⟨-, he⟩ := delay_cases s .txStart <;> constructor <;> simp [txHold, he, hq]
    | txBitWl => obtain he | ⟨-, he⟩ | ⟨-, he⟩ := txBitWl_cases s <;> constructor <;> simp [he, hq]
    | rxBitSample => obtain ⟨-, he⟩ | ⟨-, he⟩ := rxBitSample_cases s <;> constructor <;> simp [he, hq]
    | cfgStore | txParity | rxDone => constructor <;> simp [cfgStore, txParity, rxDone, hq]
    | txOutClk | txOutDat | txRelClk | txRelDat =>
      constructor <;> simp [txOutClk, txOutDat, txRelClk, txRelDat, State.pinMode, hq]
    | txInhibit | txStart | txBitDrive | txParDrive =>
      constructor <;> simp [txInhibit, txStart, txBitDrive, txParDrive, State.pinWrite, hq]
    | rxStart | rxParSample | rxStopSample | ackCheck =>
      constructor <;> simp [rxStart, rxParSample, rxStopSample, ackCheck, hq]
    | _ => simp [hq, SeqState.wait] at hw

/-! ### The flags a cycle sets -/

/-- Setting a flag sets its own bit (10_state.md R31). -/
theorem hasFlag_setFlag (x y : Anomaly) (st : BitVec 3) : hasFlag y (setFlag x st) = (decide (y = x) || hasFlag y st) := by
  cases x <;> cases y <;> simp [hasFlag, setFlag, Anomaly.bit]

@[simp] theorem hasFlag_zero (x : Anomaly) : hasFlag x 0#3 = false := by simp [hasFlag]

theorem hasFlag_flagIf (s : State) (c : Bool) (x y : Anomaly) :
    hasFlag y (s.flagIf c x).status = (c && decide (y = x) || hasFlag y s.status) := by
  cases c <;> simp [hasFlag_setFlag]

/-- The check that a cycle of this state makes and that fails: it finds the anomaly (60_exceptions.md R192 to R194). -/
def State.detects (s : State) : Anomaly → Bool
  | .fe => decide (s.seq = .rxStart) && s.level .dat || decide (s.seq = .rxStopSample) && !s.level .dat
  | .pe => decide (s.seq = .rxParSample) && (s.level .dat != parity s.acc)
  | .am => decide (s.seq = .ackCheck) && (s.rxData != s.params.ack)

/-- A cycle sets the flag of the anomaly it finds and clears none (60_exceptions.md R190, R191). -/
theorem hasFlag_microStep (s : State) (x : Anomaly) :
    hasFlag x (microStep s).status = (hasFlag x s.status || s.detects x) := by
  cases hq : s.seq with
  | rxStart | rxParSample | rxStopSample | ackCheck =>
    simp only [microStep, hq, rxStart, rxParSample, rxStopSample, ackCheck, hasFlag_flagIf]
    cases x <;> simp [State.detects, State.pinRead, hq, Bool.or_comm]
  | _ =>
    rw [(microStep_frame s).status (by simp [hq])]
    cases x <;> simp [State.detects, hq]

end Sys2Proof.Machine
end

section
/-! What a step does in each of its forms, a reset, an acceptance and a cycle of the sequencer, and what the output ports show (spec
10_state.md R36 to R46; 70_reset_and_hazards.md R220). -/

namespace Sys2Proof.Machine

/-! ### The forms of a step -/

/-- A cycle with `rst` = 1 (70_reset_and_hazards.md R220). -/
theorem step_reset {s : State} (h : s.env.hostNow.rst = true) : step s = .next s.resetCycle := by simp [step, h]

/-- A cycle in which a command is presented (10_state.md R37). -/
theorem step_presented {s : State} (hr : s.env.hostNow.rst = false) (hv : s.env.hostNow.cmdValid = true) :
    step s = exec (decode s.env.hostNow.cmd) s := by
  simp [step, hr, hv]

/-- A cycle in which none is (R46). -/
theorem step_quiet {s : State} (hr : s.env.hostNow.rst = false) (hv : s.env.hostNow.cmdValid = false) :
    step s = .next s.runCycle := by
  simp [step, hr, hv]

/-- Settles O7: the definition of a step, read case by case. -/
theorem stepRunsThePresentedCommand : Obligations.StepRunsThePresentedCommand :=
  fun _ hr => ⟨step_presented hr, step_quiet hr⟩

/-- Settles O9: each register of the state that a reset cycle leaves. -/
theorem resetTakesEverything : Obligations.ResetTakesEverything := by
  intro s h
  exact ⟨s.resetCycle, step_reset h, rfl, rfl, rfl, rfl, rfl, rfl, rfl, rfl, rfl, rfl, rfl, rfl, rfl, rfl, rfl, rfl, rfl, rfl,
    rfl, rfl, rfl⟩

/-- A cycle of an idle engine uses up its inputs and does nothing else (R37). -/
theorem runCycle_idle {s : State} (h : s.seq = .idle) : s.runCycle = s.endCycle := by
  simp [State.runCycle, microStep, h]

/-- An idle engine accepts a command that there is no reason to refuse (R37). -/
theorem present_of_eq_none {s : State} {o : Option Refusal} (hi : s.seq = .idle) (ho : o = none) (t : State) :
    s.present o t = .next t.endCycle := by
  rw [ho, present_accepted hi]

/-- Settles O10: acceptance by an idle engine, an idle cycle without a command, and a busy engine. -/
theorem acceptanceLatchesTheWord : Obligations.AcceptanceLatchesTheWord := by
  intro s
  refine ⟨fun hi => ⟨fun _ _ => present_accepted hi _, fun _ _ h => present_of_eq_none hi h _,
    fun _ _ h => present_of_eq_none hi h _, fun _ _ h => present_of_eq_none hi h _⟩, ?_, ?_⟩
  · intro hi hr hv
    rw [step_quiet hr hv, runCycle_idle hi]
    rfl
  · intro hb i j
    exact ⟨(exec_busy hb i).trans (exec_busy hb j).symm, exec_busy hb i⟩

/-! ### Placing a word on the port -/

@[simp] theorem presenting_hostNow (s : State) (w : CmdWord) : (s.presenting w).env.hostNow = ⟨false, true, w⟩ := rfl

/-- A state that is idle and has a usable binding needs nothing but the word on its port. -/
theorem place_of_ready {s : State} (hi : s.seq = .idle) (hb : s.bindingRefusal = none) (w : CmdWord) :
    s.place w = s.presenting w := by
  have hbetween : s.betweenCommands = s := by simp [State.betweenCommands, hi]
  have hbinding : (s.presenting w).withBinding = s.presenting w := if_pos hb
  unfold State.place
  rw [hbetween]
  cases decode w <;> simp [hbinding]

/-- The lowest `nbits` bits of a number that fits the port are the number, if the port is no wider (30_encoding.md R80). -/
theorem mod_two_pow_of_lt {nbits w : Nat} (hn : 18 ≤ nbits) (hw : w < 2 ^ 18) : w % 2 ^ nbits = w :=
  Nat.mod_eq_of_lt (hw.trans_le (Nat.pow_le_pow_right (by decide) hn))

/-- A number that fits the port is the table's word of any greater width (30_encoding.md R80). -/
theorem decodeTableWord_of_lt {nbits w : Nat} (hn : 18 ≤ nbits) (hw : w < 2 ^ 18) :
    decodeTableWord nbits w = some (decode (BitVec.ofNat 18 w)) := by
  have hnumber : decodeNumber w = .ok (decode (BitVec.ofNat 18 w)) := if_pos hw
  rw [decodeTableWord, mod_two_pow_of_lt hn hw, hnumber]

/-- Settles O8: the word is presented as it is, and a presented word runs. -/
theorem placedWordRuns : Obligations.PlacedWordRuns := by
  intro s nbits w hn hw hi hb
  have hplace : s.withFetchWord nbits w = s.presenting (BitVec.ofNat 18 w) := by
    rw [State.withFetchWord, mod_two_pow_of_lt hn hw, place_of_ready hi hb]
  refine ⟨decodeTableWord_of_lt hn hw, hplace, ?_⟩
  rw [hplace]
  exact step_presented rfl rfl

/-! ### The ports and the numbers of the sequencer states -/

/-- Settles O15: each port is its register, and a pad pulls when it is enabled and its output is 0. -/
theorem portsShowTheRegisters : Obligations.PortsShowTheRegisters :=
  fun _ => ⟨rfl, rfl, rfl, rfl, rfl, rfl, rfl, rfl, rfl, rfl, rfl, rfl⟩

/-- The sequencer states in the order of their numbers (10_state.md R26). -/
def SeqState.inOrder : List SeqState :=
  [.idle, .cfgStore, .txParity, .txOutClk, .txOutDat, .txInhibit, .txHold, .txStart, .txRelClk, .txWaitDev, .txBitDrive,
    .txBitWh, .txBitWl, .txParDrive, .txParWh, .txParWl, .txRelDat, .txAckDat, .txAckClk, .txIdleDat, .txIdleClk, .rxWaitStart,
    .rxStart, .rxBitWh, .rxBitWl, .rxBitSample, .rxParWh, .rxParWl, .rxParSample, .rxStopWh, .rxStopWl, .rxStopSample, .rxEndWh,
    .rxDone, .ackCheck]

/-- A state's number is its place in that list. -/
theorem inOrder_code (q : SeqState) : SeqState.inOrder[q.code.toNat]? = some q := by cases q <;> rfl

/-- Settles O6: a state's number is its place in a list of 35 states. -/
theorem sequencerNumbersDiffer : Obligations.SequencerNumbersDiffer := by
  constructor
  · intro q
    exact (List.getElem?_eq_some_iff.mp (inOrder_code q)).1
  · intro q r h
    have hq := inOrder_code q
    rw [h, inOrder_code r] at hq
    exact (Option.some.inj hq).symm

/-! ### Where a step takes `SEQ` and which registers it writes -/

/-- Settles O40: a busy engine runs a cycle of its state, and a cycle moves `SEQ` by the tables. -/
theorem sequencerMovesByTheTables : Obligations.SequencerMovesByTheTables := by
  intro s t hr hb h
  rw [step_busy hr hb] at h
  cases h
  obtain hm | ⟨hm, hw | hh | hi⟩ := microStep_seq s
  · exact .inl (nextStates_subset_successors s hm)
  · exact .inr ⟨hm, .inl hw⟩
  · exact .inr ⟨hm, .inr hh⟩
  · exact absurd hi hb

/-- Settles O41: an acceptance writes `OP`, `OPA`, `OPB` and STATUS, and a cycle the registers of its state. -/
theorem registersHaveTheirWriters : Obligations.RegistersHaveTheirWriters := by
  intro s t hr h
  obtain ⟨hr', -⟩ | ⟨-, -, hi, hexec⟩ | ⟨-, -, rfl⟩ := step_cases h
  · simp [hr] at hr'
  · obtain ⟨_, _, -, rfl⟩ | ⟨_, _, -, -, rfl⟩ | ⟨_, _, -, -, rfl⟩ | ⟨_, _, -, -, rfl⟩ :=
      exec_idle_cases hi hexec <;> simp [hi]
  · have hf := microStep_frame s
    exact ⟨fun _ => ⟨hf.op, hf.opa, hf.opb⟩, fun h => ⟨hf.clkPin h, hf.datPin h, hf.configured h⟩, hf.clkCell, hf.datCell,
      hf.par, hf.acc, hf.bitCnt, hf.dly, fun h => hf.status fun hm => h (List.mem_cons_of_mem _ hm),
      hf.rxData⟩

/-- Settles O37: a flag has a bit of its own, and a cycle only adds the flag of the anomaly it finds. -/
theorem flagsAreSticky : Obligations.FlagsAreSticky := by
  refine ⟨hasFlag_setFlag, ?_⟩
  intro s t x hr hn h hx
  obtain ⟨hr', -⟩ | ⟨-, hv, hi, -⟩ | ⟨-, -, rfl⟩ := step_cases h
  · simp [hr] at hr'
  · exact absurd ⟨hi, hv⟩ hn
  · change hasFlag x (microStep s).status = true
    rw [hasFlag_microStep, hx, Bool.true_or]

end Sys2Proof.Machine
end

section
/-! The invariant of the engine. Each part is kept when `SEQ` moves along the tables and the registers it speaks of stay; each
state that writes one of them is a case of its own. -/

namespace Sys2Proof.Machine

/-! ### `OP` names a command that has the state -/

theorem opOk_iff (s : State) : s.opOk = true ↔ s.op ∈ s.seq.ops := by simp [State.opOk]

/-- A command that has a state has the states that can follow it (10_state.md R26). -/
theorem mem_ops_of_mem_nextStates {s : State} (h : s.op ∈ s.seq.ops) : ∀ q ∈ s.nextStates, s.op ∈ q.ops := by
  unfold State.nextStates
  cases hq : s.seq with
  | txIdleClk | rxDone => by_cases h3 : s.op = 3#2 <;> simp_all [SeqState.ops]
  | _ => simp_all [SeqState.successors, SeqState.ops]

theorem microStep_opOk {s : State} (h : s.opOk = true) : (microStep s).opOk = true := by
  rw [opOk_iff] at h ⊢
  rw [(microStep_frame s).op]
  exact goto_microStep_seq (P := fun t => s.op ∈ t.seq.ops) h (mem_ops_of_mem_nextStates h)

/-! ### The delay counter -/

theorem dlyOk_of_zero {s : State} (h : s.dly = 0) : s.dlyOk = true := by
  unfold State.dlyOk
  split <;> simp [h]

theorem dly_eq_zero_of_ne_txHold {s : State} (h : s.dlyOk = true) (hq : s.seq ≠ .txHold) : s.dly = 0 := by
  unfold State.dlyOk at h
  split at h
  next hh => exact absurd hh hq
  next => simpa using h

/-- TX_INHIBIT loads the counter, TX_HOLD counts it down to 0, and it is 0 everywhere else (41_send.md R123, R124). -/
theorem microStep_dlyOk {s : State} (h : s.dlyOk = true) : (microStep s).dlyOk = true := by
  by_cases hi : s.seq = .txInhibit
  · simp [State.dlyOk, microStep, hi, txInhibit]
  by_cases hh : s.seq = .txHold
  · obtain ⟨h0, he⟩ | ⟨-, he⟩ := delay_cases s .txStart
    · exact dlyOk_of_zero (by simp [microStep, hh, txHold, he, h0])
    · have hle : s.dly ≤ s.params.inhibitCycles - 1 := by simpa [State.dlyOk, hh] using h
      simpa [State.dlyOk, microStep, hh, txHold, he] using (Nat.sub_le _ 1).trans hle
  · exact dlyOk_of_zero (((microStep_frame s).dly (by simp [hi, hh])).trans (dly_eq_zero_of_ne_txHold h hh))

/-! ### The bit count -/

/-- `bitCntOk` reads `SEQ`, `OP` and `BITCNT` only. -/
theorem bitCntOk_congr {s t : State} {q : SeqState} (hq : t.seq = q) (hop : t.op = s.op) (hb : t.bitCnt = s.bitCnt) :
    t.bitCntOk = (s.goto q).bitCntOk := by
  unfold State.bitCntOk
  rw [hq, hop, hb]
  rfl

/-- `BITCNT` is what the next state wants of it, if this state does not write it (10_state.md R33). -/
theorem bitCntOk_goto {s : State} (hs : s.seq ∉ [.txParity, .txBitWl, .rxStart, .rxBitSample]) (hop : s.op ∈ s.seq.ops)
    (h : s.bitCntOk = true) : ∀ q ∈ s.nextStates, (s.goto q).bitCntOk = true := by
  unfold State.nextStates
  cases hq : s.seq with
  | txIdleClk | rxDone => by_cases h3 : s.op = 3#2 <;> simp_all [State.bitCntOk]
  | _ => simp_all [SeqState.successors, State.bitCntOk, SeqState.ops]

/-- The two loops leave the bit count at 7, and TX_PARITY puts it to 0 (41_send.md R121, R128; 42_receive.md R143). -/
theorem microStep_bitCntOk {s : State} (hop : s.opOk = true) (h : s.bitCntOk = true) : (microStep s).bitCntOk = true := by
  rw [opOk_iff] at hop
  cases hq : s.seq with
  | txParity | rxStart => simp [State.bitCntOk, microStep, hq, txParity, rxStart]
  | txBitWl => obtain he | ⟨h7, he⟩ | ⟨-, he⟩ := txBitWl_cases s <;> simp [State.bitCntOk, microStep, *]
  | rxBitSample => obtain ⟨h7, he⟩ | ⟨-, he⟩ := rxBitSample_cases s <;> simp [State.bitCntOk, microStep, *]
  | _ =>
    have hf := microStep_frame s
    rw [bitCntOk_congr rfl hf.op (hf.bitCnt (by simp [hq]))]
    exact goto_microStep_seq (P := fun t => t.bitCntOk = true) h (bitCntOk_goto (by simp [hq]) hop h)

/-! ### The parity bit -/

theorem parOk_iff (s : State) :
    s.parOk = true ↔ s.seq = .cfgStore ∨ s.seq = .txParity ∨ s.op = 0 ∨ s.op = 2 ∨ s.par = parity s.opa := by
  unfold State.parOk
  cases s.seq <;> simp [or_assoc]

/-- TX_PARITY looks the bit up, and no other state writes `PAR` or `OPA` (10_state.md R29). -/
theorem microStep_parOk {s : State} (hop : s.opOk = true) (h : s.parOk = true) : (microStep s).parOk = true := by
  rw [parOk_iff] at h ⊢
  have hf := microStep_frame s
  rw [hf.op, hf.opa]
  by_cases hp : s.seq = .txParity
  · simp [microStep, hp, txParity]
  · rw [hf.par hp]
    obtain hc | hp' | h := h
    · exact .inr (.inr (.inl (by simpa [opOk_iff, hc, SeqState.ops] using hop)))
    · exact absurd hp' hp
    · exact .inr (.inr h)

/-! ### The driver cells -/

theorem cellsOk_iff (s : State) : s.cellsOk = true ↔ s.clkCell = s.seq.clkCell ∧ s.datCell = s.expectedDatCell := by
  simp [State.cellsOk]

/-- The clock cell is to change in the states that write it only (41_send.md R122, R123, R126). -/
theorem clkCell_of_mem_successors {q : SeqState} (hs : q ∉ [.txOutClk, .txInhibit, .txRelClk]) :
    ∀ r ∈ q.successors, r.clkCell = q.clkCell := by
  cases q <;> simp_all [SeqState.successors, SeqState.clkCell]

/-- Each write to the clock cell leaves what the next state wants there (10_state.md R44). -/
theorem microStep_clkCell {s : State} (h : s.clkCell = s.seq.clkCell) :
    (microStep s).clkCell = (microStep s).seq.clkCell := by
  by_cases hs : s.seq ∈ [.txOutClk, .txInhibit, .txRelClk]
  · simp only [List.mem_cons, List.not_mem_nil, or_false] at hs
    obtain hq | hq | hq := hs <;> rw [hq] at h <;>
      simp [microStep, hq, txOutClk, txInhibit, txRelClk, State.pinMode, State.pinWrite, h, SeqState.clkCell, Cell.released]
  · rw [(microStep_frame s).clkCell hs, h]
    exact goto_microStep_seq (P := fun t => s.seq.clkCell = t.seq.clkCell) rfl
      fun q hq => (clkCell_of_mem_successors hs q (nextStates_subset_successors s hq)).symm

/-- The next state wants the data cell as it is, unless this state writes it or counts the bit: before the first bit TX_BIT_DRIVE
finds the start bit, for `BITCNT` is 0 there (41_send.md R125, R128). -/
theorem expectedDatCell_goto {s : State} (hs : s.seq ∉ [.txOutDat, .txStart, .txBitDrive, .txBitWl, .txParDrive, .txRelDat])
    (hbit : s.bitCntOk = true) : ∀ q ∈ s.nextStates, (s.goto q).expectedDatCell = s.expectedDatCell := by
  unfold State.nextStates
  cases hq : s.seq with
  | txIdleClk | rxDone => by_cases h3 : s.op = 3#2 <;> simp_all [State.expectedDatCell]
  | _ => simp_all [SeqState.successors, State.bitCntOk, State.expectedDatCell]

/-- `expectedDatCell` reads `SEQ`, `OPA`, `BITCNT` and `PAR` only. -/
theorem expectedDatCell_congr {s t : State} {q : SeqState} (hq : t.seq = q) (ha : t.opa = s.opa) (hb : t.bitCnt = s.bitCnt)
    (hp : t.par = s.par) : t.expectedDatCell = (s.goto q).expectedDatCell := by
  unfold State.expectedDatCell
  rw [hq, ha, hb, hp]
  rfl

/-- The index of a bit after the first is not 0: TX_BIT_DRIVE then finds the bit before it on the line, not the start bit
(41_send.md R128). -/
theorem add_one_ne_zero_of_ne_seven : ∀ i : BitVec 3, i ≠ 7#3 → i + 1#3 ≠ 0#3 := by decide

/-- Each write to the data cell leaves what the next state wants there: the start bit, the data bits by their index, the parity
bit, the release (10_state.md R44). -/
theorem microStep_datCell {s : State} (hbit : s.bitCntOk = true) (h : s.datCell = s.expectedDatCell) :
    (microStep s).datCell = (microStep s).expectedDatCell := by
  cases hq : s.seq with
  | txOutDat | txRelDat =>
    simp_all [microStep, txOutDat, txRelDat, State.pinMode, State.expectedDatCell, Cell.released]
  | txStart | txBitDrive | txParDrive =>
    simp_all [microStep, txStart, txBitDrive, txParDrive, State.pinWrite, State.expectedDatCell]
  | txBitWl =>
    obtain he | ⟨-, he⟩ | ⟨h7, he⟩ := txBitWl_cases s
    · simpa [microStep, hq, he] using h
    · simp_all [microStep, State.expectedDatCell]
    · simp_all [microStep, State.expectedDatCell, add_one_ne_zero_of_ne_seven _ h7]
  | txParity | rxStart => simp_all [microStep, txParity, rxStart, State.expectedDatCell]
  | rxBitSample => obtain ⟨-, he⟩ | ⟨-, he⟩ := rxBitSample_cases s <;> simp_all [microStep, State.expectedDatCell]
  | _ =>
    have hf := microStep_frame s
    rw [hf.datCell (by simp [hq]), h,
      expectedDatCell_congr rfl hf.opa (hf.bitCnt (by simp [hq])) (hf.par (by simp [hq]))]
    exact (goto_microStep_seq (P := fun t => t.expectedDatCell = s.expectedDatCell) rfl
      (expectedDatCell_goto (by simp [hq]) hbit)).symm

/-! ### The received byte -/

/-- `rxDataOk` reads `SEQ`, `OP`, `ACC` and `RXDATA` only. -/
theorem rxDataOk_congr {s t : State} {q : SeqState} (hq : t.seq = q) (hop : t.op = s.op) (ha : t.acc = s.acc)
    (hr : t.rxData = s.rxData) : t.rxDataOk = (s.goto q).rxDataOk := by
  unfold State.rxDataOk
  rw [hq, hop, ha, hr]
  rfl

/-- `RXDATA` is what the next state wants of it, if this state does not publish a byte (42_receive.md R147). -/
theorem rxDataOk_goto {s : State} (hs : s.seq ≠ .rxDone) (hop : s.op ∈ s.seq.ops) (h : s.rxDataOk = true) :
    ∀ q ∈ s.nextStates, (s.goto q).rxDataOk = true := by
  unfold State.nextStates
  cases hq : s.seq with
  | txIdleClk => by_cases h3 : s.op = 3#2 <;> simp_all [State.rxDataOk, SeqState.ops]
  | _ => simp_all [SeqState.successors, State.rxDataOk, SeqState.ops]

/-- RX_DONE publishes the byte, and neither it nor `ACC` is written until the next command (42_receive.md R147). -/
theorem microStep_rxDataOk {s : State} (hop : s.opOk = true) (h : s.rxDataOk = true) : (microStep s).rxDataOk = true := by
  by_cases hd : s.seq = .rxDone
  · by_cases h3 : s.op = 3#2 <;> simp [State.rxDataOk, microStep, hd, rxDone, h3]
  · have hf := microStep_frame s
    rw [opOk_iff] at hop
    have hgoto := goto_microStep_seq (P := fun t => t.rxDataOk = true) h (rxDataOk_goto hd hop h)
    by_cases ha : s.seq ∈ [.rxStart, .rxBitSample]
    · simp only [List.mem_cons, List.not_mem_nil, or_false] at ha
      obtain hq | hq := ha
      · simp [State.rxDataOk, microStep, hq, rxStart]
      · obtain ⟨-, he⟩ | ⟨-, he⟩ := rxBitSample_cases s <;> simp [State.rxDataOk, microStep, hq, he]
    · rwa [rxDataOk_congr rfl hf.op (hf.acc ha) (hf.rxData hd)]

/-! ### The binding -/

theorem bindingOk_iff (s : State) :
    s.bindingOk = true ↔ (s.configured = true ∨ s.clkPin = 0 ∧ s.datPin = 0) ∧
      (s.seq = .idle ∨ s.seq = .cfgStore ∨ (if s.op = 2 then s.bindingRefusal else s.sendingRefusal) = none) := by
  unfold State.bindingOk
  by_cases h2 : s.op = 2#2 <;> cases s.seq <;> simp [h2]

/-- CFG_STORE ends the only command that writes the binding; a command on the lines keeps the one it was accepted with
(40_configure.md R113, R114). -/
theorem microStep_bindingOk {s : State} (h : s.bindingOk = true) : (microStep s).bindingOk = true := by
  by_cases hi : s.seq = .idle
  · simpa [microStep, hi] using h
  rw [bindingOk_iff] at h ⊢
  by_cases hc : s.seq = .cfgStore
  · simp [microStep, hc, cfgStore]
  · have hf := microStep_frame s
    have hb : (microStep s).bindingRefusal = s.bindingRefusal := by
      simp [State.bindingRefusal, hf.configured hc, hf.clkPin hc, hf.datPin hc]
    have hs : (microStep s).sendingRefusal = s.sendingRefusal := by simp [State.sendingRefusal, hb]
    rw [hf.op, hf.configured hc, hf.clkPin hc, hf.datPin hc, hb, hs]
    exact ⟨h.1, .inr (.inr (by simpa [hi, hc] using h.2))⟩

/-! ### The flags -/

/-- `flagsOk` reads `SEQ`, `OP`, STATUS, `RXDATA` and the parameters only. -/
theorem flagsOk_congr {s t : State} {q : SeqState} (hq : t.seq = q) (hop : t.op = s.op) (hs : t.status = s.status)
    (hr : t.rxData = s.rxData) (hp : t.params = s.params) : t.flagsOk = (s.goto q).flagsOk := by
  unfold State.flagsOk
  rw [hq, hop, hs, hr, hp]
  rfl

/-- Each state allows the flags that its predecessors do (60_exceptions.md R190). -/
theorem flagsOk_goto {s : State} (hs : s.seq ∉ [.rxStart, .rxParSample, .rxStopSample, .rxDone, .ackCheck])
    (hop : s.op ∈ s.seq.ops) (h : s.flagsOk = true) : ∀ q ∈ s.nextStates, (s.goto q).flagsOk = true := by
  unfold State.nextStates
  cases hq : s.seq with
  | txIdleClk => by_cases h3 : s.op = 3#2 <;> simp_all [State.flagsOk, SeqState.ops]
  | cfgStore => simp_all [SeqState.successors, State.flagsOk, SeqState.ops]
  | _ => simp_all [SeqState.successors, State.flagsOk]

/-- A failed check sets a flag that the next state allows, and ACK_CHECK leaves `AM` saying whether the response was `ACK`
(43_send_command.md R161). -/
theorem microStep_flagsOk {s : State} (hop : s.opOk = true) (h : s.flagsOk = true) : (microStep s).flagsOk = true := by
  rw [opOk_iff] at hop
  have hf := microStep_frame s
  cases hq : s.seq with
  | rxStart =>
    have hnext : (microStep s).seq = .rxBitWh := by simp [microStep, hq, rxStart]
    simp_all [State.flagsOk, hasFlag_microStep, State.detects]
  | rxParSample =>
    have hnext : (microStep s).seq = .rxStopWh := by simp [microStep, hq, rxParSample]
    simp_all [State.flagsOk, hasFlag_microStep, State.detects]
  | rxStopSample =>
    have hnext : (microStep s).seq = .rxEndWh := by simp [microStep, hq, rxStopSample]
    simp_all [State.flagsOk, hasFlag_microStep, State.detects]
  | rxDone => by_cases h3 : s.op = 3#2 <;> simp_all [State.flagsOk, microStep, rxDone, SeqState.ops]
  | ackCheck =>
    have hnext : (microStep s).seq = .idle := by simp [microStep, hq, ackCheck]
    simp_all [State.flagsOk, hasFlag_microStep, State.detects, hf.op, hf.rxData, SeqState.ops]
  | _ =>
    rw [flagsOk_congr rfl hf.op (hf.status (by simp [hq])) (hf.rxData (by simp [hq])) (microStep_params s)]
    exact goto_microStep_seq (P := fun t => t.flagsOk = true) h (flagsOk_goto (by simp [hq]) hop h)

/-! ### The invariant -/

/-- A cycle of the sequencer keeps the invariant: each part by its own lemma. -/
theorem runCycle_inv {s : State} (h : s.Inv) : s.runCycle.Inv := by
  obtain ⟨hcells, hop, hdly, hbit, hpar, hflags, hrx, hbind⟩ := h
  obtain ⟨hclk, hdat⟩ := (cellsOk_iff s).mp hcells
  exact ⟨(cellsOk_iff _).mpr ⟨microStep_clkCell hclk, microStep_datCell hbit hdat⟩, microStep_opOk hop, microStep_dlyOk hdly,
    microStep_bitCntOk hop hbit, microStep_parOk hop hpar, microStep_flagsOk hop hflags, microStep_rxDataOk hop hrx,
    microStep_bindingOk hbind⟩

/-- A reset leaves the invariant, whatever the parameters. -/
theorem resetCycle_inv (s : State) : s.resetCycle.Inv :=
  ⟨rfl, rfl, rfl, rfl, rfl, rfl, rfl, rfl⟩

/-- The opcodes and the first states of the four commands (R26, R37). -/
def firstStates : List (BitVec 2 × SeqState) := [(0, .cfgStore), (1, .txParity), (2, .rxWaitStart), (3, .txParity)]

/-- The first state of a command wants nothing but an engine that was idle, and a binding that is not refused. -/
theorem accept_inv {s : State} (h : s.Inv) (hi : s.seq = .idle) {op : BitVec 2} {q : SeqState} (a b : Byte)
    (hq : (op, q) ∈ firstStates)
    (hb : q = .cfgStore ∨ (if op = 2 then s.bindingRefusal else s.sendingRefusal) = none) :
    (s.accept op a b q).endCycle.Inv := by
  obtain ⟨hcells, -, hdly, -, -, -, -, hbind⟩ := h
  obtain ⟨hclk, hdat⟩ := (cellsOk_iff s).mp hcells
  obtain ⟨hpins, -⟩ := (bindingOk_iff s).mp hbind
  have hd : s.dly = 0 := dly_eq_zero_of_ne_txHold hdly (by simp [hi])
  simp only [hi, SeqState.clkCell, State.expectedDatCell] at hclk hdat
  simp only [firstStates, List.mem_cons, Prod.mk.injEq, List.not_mem_nil, or_false] at hq
  obtain ⟨rfl, rfl⟩ | ⟨rfl, rfl⟩ | ⟨rfl, rfl⟩ | ⟨rfl, rfl⟩ := hq <;>
    exact ⟨(cellsOk_iff _).mpr ⟨hclk, hdat⟩, rfl, dlyOk_of_zero hd, rfl, rfl, rfl, rfl,
      (bindingOk_iff _).mpr ⟨hpins, .inr hb⟩⟩

/-- Settles O43, by the three forms of a step: reset, acceptance, a cycle of the current state. -/
theorem stepKeepsTheInvariant : Obligations.StepKeepsTheInvariant := by
  intro s t hinv h
  obtain ⟨-, rfl⟩ | ⟨-, -, hi, hexec⟩ | ⟨-, -, rfl⟩ := step_cases h
  · exact resetCycle_inv s
  · obtain ⟨_, _, -, rfl⟩ | ⟨_, _, -, hr, rfl⟩ | ⟨_, _, -, hr, rfl⟩ | ⟨_, _, -, hr, rfl⟩ := exec_idle_cases hi hexec
    · exact accept_inv hinv hi _ _ (by decide) (.inl rfl)
    · exact accept_inv hinv hi _ _ (by decide) (.inr hr)
    · exact accept_inv hinv hi _ _ (by decide) (.inr hr)
    · exact accept_inv hinv hi _ _ (by decide) (.inr hr)
  · exact runCycle_inv hinv

/-- Settles O44: the state after reset, evaluated. -/
theorem resetHasTheInvariant : Obligations.ResetHasTheInvariant := by
  unfold Obligations.ResetHasTheInvariant
  decide

/-- Settles O45: the two cells are released in `IDLE`, and a released cell does not pull. -/
theorem idleReleasesBothLines : Obligations.IdleReleasesBothLines := by
  intro s hinv hi
  obtain ⟨hcells, -⟩ := hinv
  obtain ⟨hclk, hdat⟩ := (cellsOk_iff s).mp hcells
  simp only [hi, SeqState.clkCell, State.expectedDatCell] at hclk hdat
  exact ⟨hclk, hdat, by simp [State.enginePull, hclk], by simp [State.enginePull, hdat]⟩

theorem microStep_txOutClk {s : State} (h : s.seq = .txOutClk) :
    microStep s = { s with clkCell := ⟨.out, s.clkCell.latch⟩, seq := .txOutDat } := by
  simp only [microStep, h]
  rfl

theorem microStep_txOutDat {s : State} (h : s.seq = .txOutDat) :
    microStep s = { s with datCell := ⟨.out, s.datCell.latch⟩, seq := .txInhibit } := by
  simp only [microStep, h]
  rfl

/-- Settles O23: each of the two states sets its cell's mode, and after both the invariant has the two latches at 1. -/
theorem txOutputModesClockFirst : Obligations.TxOutputModesClockFirst := by
  intro s hr
  refine ⟨fun h => ?_, fun h => ?_, fun hinv h => ?_⟩
  · rw [step_busy hr (by simp [h]), State.runCycle, microStep_txOutClk h]
    rfl
  · rw [step_busy hr (by simp [h]), State.runCycle, microStep_txOutDat h]
    rfl
  · refine ⟨s.runCycle, step_busy hr (by obtain h | h := h <;> simp [h]), ?_⟩
    obtain ⟨hcells, -⟩ := runCycle_inv hinv
    obtain ⟨hclk, hdat⟩ := (cellsOk_iff _).mp hcells
    have hnext : s.runCycle.seq = .txOutDat ∨ s.runCycle.seq = .txInhibit :=
      h.imp (fun h => congrArg State.seq (microStep_txOutClk h)) (fun h => congrArg State.seq (microStep_txOutDat h))
    obtain hq | hq := hnext <;> simp only [hq, SeqState.clkCell, State.expectedDatCell] at hclk hdat <;>
      simp [State.enginePull, hclk, hdat, Cell.pulls, Cell.released]

end Sys2Proof.Machine
end

section
/-! The lines: who pulls them, what PINMODE and PINWRITE do to the driver cells, which commands need a binding, and the law of the
parity ROM (spec 20_memory.md R50 to R61; 44_line_primitives.md R170, R171, R179). -/

namespace Sys2Proof.Machine

/-! ### The wires and the driver cells -/

/-- Settles O18: the pull of a driver cell, and the wired-AND of the two pulls. -/
theorem wiresResolve : Obligations.WiresResolve :=
  fun s l => ⟨pulls_iff (s.cell l), level_eq_false_iff s l⟩

/-- A write to one line's cell, read back at any line (20_memory.md R56). -/
theorem setCell_cell (s : State) (l k : Line) (c : Cell) : (s.setCell l c).cell k = if k = l then c else s.cell k := by
  split
  next h => rw [h, setCell_cell_same]
  next h => exact setCell_cell_other s c h

/-- Settles O19: each operation is a write of one cell, and such a write changes neither the other cell nor any other field. -/
theorem pinOperationsOnTheCells : Obligations.PinOperationsOnTheCells := by
  intro s l v
  refine ⟨rfl, rfl, ?_, rfl, setCell_cell s l, fun c => by cases l <;> rfl⟩
  rw [State.enginePull, pinMode_cell_same, withMode_inPullup, released_pulls]

/-- A cycle writes the cell of one line at most: no sequencer state is among the writers of both (20_memory.md R56). -/
theorem microStep_clkCell_or_datCell (s : State) : (microStep s).clkCell = s.clkCell ∨ (microStep s).datCell = s.datCell := by
  have hf := microStep_frame s
  by_cases hs : s.seq ∈ [.txOutClk, .txInhibit, .txRelClk]
  · refine .inr (hf.datCell ?_)
    simp only [List.mem_cons, List.not_mem_nil, or_false] at hs
    obtain hq | hq | hq := hs <;> simp [hq]
  · exact .inl (hf.clkCell hs)

/-- Settles O42: an acceptance touches no cell, and a cycle of the sequencer one at most. -/
theorem oneLineTouchedPerCycle : Obligations.OneLineTouchedPerCycle := by
  intro s t hr h
  obtain ⟨hr', -⟩ | ⟨-, -, hi, hexec⟩ | ⟨-, -, rfl⟩ := step_cases h
  · simp [hr] at hr'
  · obtain ⟨_, _, -, rfl⟩ | ⟨_, _, -, -, rfl⟩ | ⟨_, _, -, -, rfl⟩ | ⟨_, _, -, -, rfl⟩ := exec_idle_cases hi hexec <;>
      exact .inl rfl
  · exact microStep_clkCell_or_datCell s

/-! ### The owner of a line -/

/-- Where the micro-program pulls the clock, the engine owns it (20_memory.md R61). -/
theorem owner_clk_of_pulls {q : SeqState} (h : q.clkCell.pulls = true) : q.owner .clk = .engine := by
  cases q with
  | txHold | txStart | txRelClk => rfl
  | _ => cases h

/-- Where the micro-program pulls the data line, the engine owns it, or hands it over in this cycle (R61). -/
theorem owner_dat_of_pulls {s : State} (h : s.expectedDatCell.pulls = true) :
    s.seq.owner .dat = .engine ∨ s.seq = .txRelDat := by
  unfold State.expectedDatCell at h
  cases hq : s.seq <;> simp [hq, SeqState.owner] at h ⊢

/-- In a wait state the micro-program has released the clock (41_send.md R134). -/
theorem clkCell_of_wait {q : SeqState} (h : q.wait.isSome = true) : q.clkCell = Cell.released := by
  cases q with
  | txOutDat | txInhibit | txHold | txStart | txRelClk => cases h
  | _ => rfl

/-- The line that a wait state polls is released (20_memory.md R66). -/
theorem cell_of_wait {s : State} (hcells : s.cellsOk = true) {l : Line} {v : Bool} (hw : s.seq.wait = some (l, v)) :
    s.cell l = Cell.released := by
  obtain ⟨hclk, hdat⟩ := (cellsOk_iff s).mp hcells
  cases l with
  | clk => exact hclk.trans (clkCell_of_wait (by simp [hw]))
  | dat =>
    rw [cell_dat, hdat]
    unfold State.expectedDatCell
    cases hq : s.seq <;> simp [hq, SeqState.wait] at hw ⊢

/-- Settles O46: what the invariant has in the driver cells, held against the table of owners and the table of waits. -/
theorem enginePullsOnlyItsOwnLines : Obligations.EnginePullsOnlyItsOwnLines := by
  intro s ⟨hcells, _⟩
  obtain ⟨hclk, hdat⟩ := (cellsOk_iff s).mp hcells
  refine ⟨fun l hl => ?_, fun l v hw => ?_, fun hs => ?_⟩
  · cases l with
    | clk => exact .inl (owner_clk_of_pulls (hclk ▸ hl))
    | dat => exact (owner_dat_of_pulls (hdat ▸ hl)).imp_right fun h => ⟨h, rfl⟩
  · refine ⟨?_, by rw [cell_of_wait hcells hw]; rfl⟩
    rw [State.enginePull, cell_clk, hclk, clkCell_of_wait (by simp [hw]), released_pulls]
  · simp only [List.mem_cons, List.not_mem_nil, or_false] at hs
    rw [hdat, State.expectedDatCell]
    obtain hq | hq | hq | hq := hs <;> rw [hq] <;> rfl

/-! ### Commands without a usable binding -/

theorem bindingRefusal_of_not_configured {s : State} (h : s.configured = false) : s.bindingRefusal = some .notConfigured := by
  simp [State.bindingRefusal, h]

theorem bindingRefusal_of_eq_pins {s : State} (hc : s.configured = true) (h : s.clkPin = s.datPin) :
    s.bindingRefusal = some .samePin := by
  simp [State.bindingRefusal, hc, h]

theorem bindingRefusal_of_invalid_pin {s : State} (hc : s.configured = true) (hp : s.clkPin ≠ s.datPin)
    (h : s.params.validPins.has s.clkPin = false ∨ s.params.validPins.has s.datPin = false) :
    s.bindingRefusal = some .invalidPin := by
  have hv : (s.params.validPins.has s.clkPin && s.params.validPins.has s.datPin) = false := Bool.and_eq_false_iff.mpr h
  simp [State.bindingRefusal, hc, hp, hv]

/-- A sending command checks the binding first (40_configure.md R112, R113). -/
theorem sendingRefusal_of_bindingRefusal {s : State} {r : Refusal} (h : s.bindingRefusal = some r) :
    s.sendingRefusal = some r := by
  simp [State.sendingRefusal, h]

/-- A refused binding refuses all three commands that use the lines. -/
theorem exec_refused_of_bindingRefusal {s : State} {r : Refusal} (hi : s.seq = .idle) (h : s.bindingRefusal = some r)
    (v b : Byte) :
    exec (.send v b) s = .refused r ∧ exec (.recv v b) s = .refused r ∧ exec (.sendcmd v b) s = .refused r := by
  simp [exec, execSend, execRecv, execSendcmd, sendingRefusal_of_bindingRefusal h, h, present_refused hi]

/-- Settles O11: each of the three bindings is refused, and with it the three commands. -/
theorem lineCommandsNeedABinding : Obligations.LineCommandsNeedABinding := by
  intro s v b hi
  exact ⟨fun hc => exec_refused_of_bindingRefusal hi (bindingRefusal_of_not_configured hc) v b,
    fun hc hp => exec_refused_of_bindingRefusal hi (bindingRefusal_of_eq_pins hc hp) v b,
    fun hc hp hv => exec_refused_of_bindingRefusal hi (bindingRefusal_of_invalid_pin hc hp hv) v b⟩

/-! ### The parity ROM -/

/-- The exclusive or of the four bits of half an address. -/
def nibbleParity (x : BitVec 4) : Bool := x.getLsbD 0 ^^ x.getLsbD 1 ^^ x.getLsbD 2 ^^ x.getLsbD 3

/-- The upper half of the address tells which of the two rows R59 has there. -/
theorem parityRom_row : ∀ x : BitVec 4, parityRom.getD x.toNat [] = if nibbleParity x then romRowOdd else romRowEven := by
  decide

theorem romRowEven_column : ∀ x : BitVec 4, romRowEven.getD x.toNat false = !nibbleParity x := by decide

theorem romRowOdd_column : ∀ x : BitVec 4, romRowOdd.getD x.toNat false = nibbleParity x := by decide

/-- The ROM's entry, by the halves of its address (20_memory.md R59). -/
theorem parity_eq_nibbles (v : Byte) :
    parity v = !(nibbleParity (v.extractLsb' 4 4) ^^ nibbleParity (v.extractLsb' 0 4)) := by
  have hrow : v.toNat / 16 = (v.extractLsb' 4 4).toNat := by
    simp only [BitVec.extractLsb'_toNat, Nat.shiftRight_eq_div_pow]
    omega
  have hcolumn : v.toNat % 16 = (v.extractLsb' 0 4).toNat := by simp
  rw [parity, hrow, hcolumn, parityRom_row]
  cases nibbleParity (v.extractLsb' 4 4) with
  | false => rw [if_neg Bool.false_ne_true, romRowEven_column, Bool.false_xor]
  | true => rw [if_pos rfl, romRowOdd_column, Bool.true_xor, Bool.not_not]

/-- The ROM's law as an exclusive or (R58). -/
theorem parity_eq_not_xor (v : Byte) :
    parity v = !(v.getLsbD 0 ^^ v.getLsbD 1 ^^ v.getLsbD 2 ^^ v.getLsbD 3 ^^ v.getLsbD 4 ^^ v.getLsbD 5 ^^ v.getLsbD 6 ^^
      v.getLsbD 7) := by
  rw [parity_eq_nibbles, Bool.xor_comm]
  simp [nibbleParity]

/-- How many elements of a list have a property, modulo 2, is the exclusive or of the property over the list. -/
theorem length_filter_mod_two {α : Type} (f : α → Bool) (xs : List α) :
    (xs.filter f).length % 2 = (xs.foldr (fun x b => f x ^^ b) false).toNat := by
  induction xs with
  | nil => rfl
  | cons x xs ih =>
    cases hx : f x with
    | false => simpa [hx] using ih
    | true =>
      rw [List.filter_cons_of_pos hx, List.length_cons, Nat.add_mod, ih, List.foldr_cons, hx]
      cases xs.foldr (fun x b => f x ^^ b) false <;> rfl

/-- Settles O35: the exclusive or by the rows of the ROM, and it counts the 1 bits modulo 2. -/
theorem parityRomIsOddParity : Obligations.ParityRomIsOddParity := by
  intro v
  refine ⟨?_, parity_eq_not_xor v⟩
  rw [popcount, length_filter_mod_two, parity_eq_not_xor]
  simp [List.range_succ]

end Sys2Proof.Machine
end

section
/-! A SEND on the wire. While it runs, the driver cells are what `SEQ`, `BITCNT` and the byte make them, so it is enough to follow
`SEQ` and `BITCNT` along the peripheral's clock phases (spec 41_send.md R135, R137; 70_reset_and_hazards.md R227). -/

namespace Sys2Proof.Machine

/-! ### Runs that reach a property -/

/-- After `n` cycles from `s` the machine is in a state with the property. -/
def Reaches (n : Nat) (s : State) (P : State → Prop) : Prop := ∃ t, run n s = .next t ∧ P t

theorem Reaches.zero {s : State} {P : State → Prop} (h : P s) : Reaches 0 s P := ⟨s, rfl, h⟩

theorem Reaches.step {n : Nat} {s t : State} {P : State → Prop} (hs : step s = .next t) (h : Reaches n t P) :
    Reaches (n + 1) s P := by
  obtain ⟨u, hu, hp⟩ := h
  exact ⟨u, (run_succ_next n hs).trans hu, hp⟩

theorem Reaches.trans {m n : Nat} {s : State} {P Q : State → Prop} (h : Reaches m s P) (hPQ : ∀ t, P t → Reaches n t Q) :
    Reaches (m + n) s Q := by
  obtain ⟨t, ht, hp⟩ := h
  obtain ⟨u, hu, hq⟩ := hPQ t hp
  exact ⟨u, (run_add m n ht).trans hu, hq⟩

/-! ### One cycle of a SEND -/

theorem advance_pulls (e : Env) : e.advance.pulls = e.pulls.tail := by
  obtain ⟨h, ps, t⟩ := e
  cases ps <;> rfl

/-- No sequencer state's action touches the inputs: the end of the cycle uses them up (10_state.md R46). -/
@[simp] theorem microStep_env (s : State) : (microStep s).env = s.env := by
  by_cases hw : s.seq ≠ .txBitWl ∧ s.seq.wait.isSome = true
  · obtain ⟨⟨l, v⟩, hlv⟩ := Option.isSome_iff_exists.mp hw.2
    obtain ⟨q, -, he⟩ := microStep_wait hlv hw.1
    rw [he, waitPin_eq_goto, goto_env]
  · unfold microStep
    cases hq : s.seq with
    | idle | cfgStore | txParity | rxDone => rfl
    | txHold => obtain ⟨-, he⟩ | ⟨-, he⟩ := delay_cases s .txStart <;> simp [txHold, he]
    | txBitWl => obtain he | ⟨-, he⟩ | ⟨-, he⟩ := txBitWl_cases s <;> simp [he]
    | rxBitSample => obtain ⟨-, he⟩ | ⟨-, he⟩ := rxBitSample_cases s <;> simp [he]
    | txOutClk | txOutDat | txRelClk | txRelDat => simp [txOutClk, txOutDat, txRelClk, txRelDat]
    | txInhibit | txStart | txBitDrive | txParDrive => simp [txInhibit, txStart, txBitDrive, txParDrive]
    | rxStart | rxParSample | rxStopSample | ackCheck => simp [rxStart, rxParSample, rxStopSample, ackCheck]
    | _ => simp [hq, SeqState.wait] at hw

/-- A wait state whose line has not the awaited level does nothing (44_line_primitives.md R174). -/
theorem microStep_unmet {s : State} {l : Line} {v : Bool} (hw : s.seq.wait = some (l, v)) (h : s.level l ≠ v) :
    microStep s = s := by
  by_cases hq : s.seq = .txBitWl
  · rw [hq] at hw
    cases hw
    simp only [microStep, hq]
    exact waitPinThen_blocked _ h
  · obtain ⟨q, -, he⟩ := microStep_wait hw hq
    exact he.trans (waitPinThen_blocked _ h)

/-- A SEND of `v` is in the sequencer state `q` with `BITCNT` = `i`; the pulls `ps` are listed for the coming cycles, and the parts of
the invariant that fix the driver cells hold. -/
structure Sends (v : Byte) (q : SeqState) (i : BitVec 3) (ps : List Pulls) (s : State) : Prop where
  seq : s.seq = q
  bitCnt : s.bitCnt = i
  opa : s.opa = v
  cells : s.cellsOk = true
  op : s.opOk = true
  bitCntOk : s.bitCntOk = true
  par : s.parOk = true
  noReset : s.env.noReset
  pulls : s.env.pulls = ps

namespace Sends

variable {v : Byte} {q r : SeqState} {i j : BitVec 3} {p : Pulls} {ps : List Pulls} {s : State} {n k : Nat}

/-- A cycle of a SEND goes where its state's action takes `SEQ` and `BITCNT`. -/
theorem runCycle (h : Sends v q i ps s) (hs : (microStep s).seq = r) (hb : (microStep s).bitCnt = j) :
    Sends v r j ps.tail s.runCycle := by
  obtain ⟨hclk, hdat⟩ := (cellsOk_iff s).mp h.cells
  exact {
    seq := hs
    bitCnt := hb
    opa := (microStep_frame s).opa.trans h.opa
    cells := (cellsOk_iff _).mpr ⟨microStep_clkCell hclk, microStep_datCell h.bitCntOk hdat⟩
    op := microStep_opOk h.op
    bitCntOk := microStep_bitCntOk h.op h.bitCntOk
    par := microStep_parOk h.op h.par
    noReset := noReset_advance ((microStep_env s).symm ▸ h.noReset)
    pulls := by rw [State.runCycle, endCycle_env, advance_pulls, microStep_env, h.pulls] }

theorem step (h : Sends v q i ps s) (hq : q ≠ .idle) : step s = .next s.runCycle :=
  step_busy (hostNow_rst_of_noReset h.noReset) (h.seq ▸ hq)

/-- A state that is no wait and has one successor goes on to it; left out are the hold and the states that write `BITCNT`. -/
theorem move (h : Sends v q i ps s) (hr : q.successors = [r]) (hw : q.wait = none)
    (hq : q ∉ [.txParity, .txHold, .rxStart, .rxBitSample]) : Sends v r i ps.tail s.runCycle := by
  have hseq := h.seq
  subst hseq
  have hwl : s.seq ≠ .txBitWl := fun hl => by simp [hl, SeqState.wait] at hw
  simp only [List.mem_cons, List.not_mem_nil, or_false, not_or] at hq
  obtain ⟨hpar, hhold, hstart, hsample⟩ := hq
  refine h.runCycle ?_ (((microStep_frame s).bitCnt (by simp [*])).trans h.bitCnt)
  obtain hm | ⟨-, hwait | hhold' | hidle⟩ := microStep_seq s
  · simpa [hr] using nextStates_subset_successors s hm
  · simp [hw] at hwait
  · exact absurd hhold' hhold
  · simp [hidle, SeqState.successors] at hr

/-! ### Waiting -/

theorem env_pull (h : Sends v q i (p :: ps) s) (l : Line) : s.env.pull l = p.pull l := by
  unfold Env.pull
  rw [h.pulls]
  cases l <;> rfl

/-- A released line has the level the peripheral gives it (20_memory.md R51). -/
theorem level_of_released {l : Line} (h : Sends v q i (p :: ps) s) (hc : s.cell l = Cell.released) : s.level l = p.level l := by
  rw [State.level, State.enginePull, hc, h.env_pull, released_pulls, Pulls.level]

/-- The line that a wait state polls is a released one (R66). -/
theorem level_of_wait {l : Line} {x : Bool} (h : Sends v q i (p :: ps) s) (hw : q.wait = some (l, x)) : s.level l = p.level l :=
  h.level_of_released (cell_of_wait h.cells (h.seq ▸ hw))

/-- A wait goes on as long as the peripheral's pulls do not give the awaited level (44_line_primitives.md R174). -/
theorem stay {l : Line} {x : Bool} (hw : q.wait = some (l, x)) (hp : p.level l ≠ x)
    (h : Sends v q i (List.replicate n p ++ ps) s) : Reaches n s (Sends v q i ps) := by
  induction n generalizing s with
  | zero => exact .zero h
  | succ n ih =>
    have hunmet : microStep s = s := microStep_unmet (h.seq ▸ hw) ((level_of_wait h hw).trans_ne hp)
    refine .step (h.step ?_) (ih (h.runCycle (by rw [hunmet, h.seq]) (by rw [hunmet, h.bitCnt])))
    rintro rfl
    cases hw

/-- A wait ends in the first cycle with the awaited level; TX_BIT_WL, which counts the bit, is left out (R174). -/
theorem met {l : Line} {x : Bool} (h : Sends v q i (p :: ps) s) (hr : q.successors = [r]) (hw : q.wait = some (l, x))
    (hl : p.level l = x) (hq : q ≠ .txBitWl) : Sends v r i ps s.runCycle := by
  obtain ⟨r', hr', he⟩ := microStep_wait (h.seq ▸ hw) (h.seq ▸ hq)
  have hnext : r' = r := by simpa [h.seq, hr] using nextStates_subset_successors s hr'
  have hgoto : microStep s = s.goto r := by rw [he, waitPin_eq_goto, if_pos ((level_of_wait h hw).trans hl), hnext]
  exact h.runCycle (by rw [hgoto, goto_seq]) (by rw [hgoto, goto_bitCnt, h.bitCnt])

/-! ### From the acceptance to the wait for the peripheral -/

/-- TX_HOLD counts `DLY` down (41_send.md R124). -/
theorem hold (h : Sends v .txHold i ps s) (hd : s.dly = n) : Reaches (n + 1) s (Sends v .txStart i (ps.drop (n + 1))) := by
  induction n generalizing s ps with
  | zero =>
    have hgo : microStep s = s.goto .txStart := by simp [microStep, h.seq, txHold, State.delay, hd]
    rw [List.drop_one]
    exact .step (h.step (by decide)) (.zero (h.runCycle (by rw [hgo, goto_seq]) (by rw [hgo, goto_bitCnt, h.bitCnt])))
  | succ n ih =>
    have hcount : microStep s = { s with dly := n } := by simp [microStep, h.seq, txHold, State.delay, hd]
    have hnext : Sends v .txHold i ps.tail s.runCycle := h.runCycle (by rw [hcount, ← h.seq]) (by rw [hcount, ← h.bitCnt])
    rw [← List.drop_tail]
    exact .step (h.step (by decide)) (ih hnext (by rw [State.runCycle, hcount, endCycle_dly]))

/-- From TX_PARITY to TX_WAIT_DEV: six states and the hold, whatever the peripheral pulls (41_send.md R121 to R126). -/
theorem setup (h : Sends v .txParity i ps s) (hN : 1 ≤ s.params.inhibitCycles) :
    Reaches (6 + s.params.inhibitCycles) s (Sends v .txWaitDev 0 (ps.drop (6 + s.params.inhibitCycles))) := by
  have h1 : Sends v .txOutClk 0 ps.tail s.runCycle :=
    h.runCycle (by simp [microStep, h.seq, txParity]) (by simp [microStep, h.seq, txParity])
  have h2 := h1.move (r := .txOutDat) rfl rfl (by decide)
  have h3 := h2.move (r := .txInhibit) rfl rfl (by decide)
  have h4 := h3.move (r := .txHold) rfl rfl (by decide)
  have hdly : s.runCycle.runCycle.runCycle.runCycle.dly = s.params.inhibitCycles - 1 := by
    rw [State.runCycle, endCycle_dly]
    simp [microStep, h3.seq, txInhibit]
  have hstart := Reaches.step (h.step (by decide)) (.step (h1.step (by decide)) (.step (h2.step (by decide))
    (.step (h3.step (by decide)) (h4.hold hdly))))
  have hdev := hstart.trans (n := 2) fun t ht =>
    have hrel := ht.move (r := .txRelClk) rfl rfl (by decide)
    .step (ht.step (by decide)) (.step (hrel.step (by decide)) (.zero (hrel.move (r := .txWaitDev) rfl rfl (by decide))))
  rw [Nat.sub_add_cancel hN] at hdev
  rw [Nat.add_comm 6]
  simpa only [List.tail_drop, List.drop_tail] using hdev

/-! ### The cells of the frame

The cells of a frame are numbered by `k`: the start cell 0, the data bits 1 to 8, the parity bit 9, the stop bit 10. Each but the start
cell has a state that drives it and a wait for the clock to rise, and each but the stop cell a wait for the clock to fall. -/

/-- The state that writes the `k`-th cell to the data line. -/
def driveState : Nat → SeqState
  | 9 => .txParDrive
  | 10 => .txRelDat
  | _ => .txBitDrive

/-- The wait of the `k`-th cell for the clock to rise; after the stop cell, for the peripheral's acknowledgment. -/
def highState : Nat → SeqState
  | 9 => .txParWh
  | 10 => .txAckDat
  | _ => .txBitWh

/-- The wait of the `k`-th cell for the clock to fall. -/
def lowState : Nat → SeqState
  | 0 => .txWaitDev
  | 9 => .txParWl
  | _ => .txBitWl

/-- `BITCNT` while the `k`-th cell is on the line. -/
def cellIndex (k : Nat) : BitVec 3 := BitVec.ofNat 3 (min (k - 1) 7)

/-- When the clock falls the SEND goes on to drive the next cell (41_send.md R127 to R129). -/
theorem toDrive (hk : k ≤ 9) (h : Sends v (lowState k) (cellIndex k) (⟨true, false⟩ :: ps) s) :
    Sends v (driveState (k + 1)) (cellIndex (k + 1)) ps s.runCycle := by
  obtain rfl | rfl | ⟨h1, h8⟩ : k = 0 ∨ k = 9 ∨ 1 ≤ k ∧ k ≤ 8 := by omega
  · exact h.met (r := .txBitDrive) rfl rfl rfl (by decide)
  · exact h.met (r := .txRelDat) rfl rfl rfl (by decide)
  · have hq : lowState k = .txBitWl := by interval_cases k <;> rfl
    have hgo : microStep s = if lastBit (cellIndex k) then { s with bitCnt := cellIndex k, seq := .txParDrive }
        else { s with bitCnt := cellIndex k + 1, seq := .txBitDrive } := by
      simp only [microStep, h.seq, hq, ← h.bitCnt]
      exact waitPinThen_done _ (h.level_of_wait (x := false) (by rw [hq]; rfl))
    refine h.runCycle ?_ ?_ <;> rw [hgo] <;> interval_cases k <;> rfl

/-- Each cell is driven in one cycle, after which the SEND waits for the clock to rise (41_send.md R128, R129, R130). -/
theorem toHigh (hk : k ≤ 9) (h : Sends v (driveState (k + 1)) i ps s) : Sends v (highState (k + 1)) i ps.tail s.runCycle := by
  refine h.move ?_ ?_ ?_ <;> interval_cases k <;> decide

/-- When the clock rises the SEND waits for it to fall (R128, R129). -/
theorem toLow (hk : k ≤ 8) (h : Sends v (highState (k + 1)) i (⟨false, false⟩ :: ps) s) :
    Sends v (lowState (k + 1)) i ps s.runCycle := by
  refine h.met (l := .clk) (x := true) ?_ ?_ rfl ?_ <;> interval_cases k <;> decide

theorem driveState_ne_idle : driveState k ≠ .idle := by unfold driveState; split <;> decide

theorem lowState_wait : (lowState k).wait = some (.clk, false) := by unfold lowState; split <;> rfl

/-- A SEND that waits for the clock to rise, or at the end for the peripheral to pull the data line, goes on waiting while the clock is
low and nothing else is pulled. -/
theorem stayHigh (h : Sends v (highState k) i (clockLow n ++ ps) s) : Reaches n s (Sends v (highState k) i ps) := by
  unfold highState at h ⊢
  split at h
  · exact stay (l := .clk) (x := true) rfl (by decide) h
  · exact stay (l := .dat) (x := false) rfl (by decide) h
  · exact stay (l := .clk) (x := true) rfl (by decide) h

/-- In a low phase of at least 2 cycles the next cell is driven. -/
theorem lowPhase (hk : k ≤ 9) (h : Sends v (lowState k) (cellIndex k) (clockLow (n + 2) ++ ps) s) :
    Reaches (n + 2) s (Sends v (highState (k + 1)) (cellIndex (k + 1)) ps) := by
  have hd := h.toDrive hk
  exact .step (h.step (by unfold lowState; split <;> decide)) (.step (hd.step driveState_ne_idle) (hd.toHigh hk).stayHigh)

/-- In a high phase the SEND begins to wait for the next low one. -/
theorem highPhase (hk : k ≤ 8) (h : Sends v (highState (k + 1)) i (silence (n + 1) ++ ps) s) :
    Reaches (n + 1) s (Sends v (lowState (k + 1)) i ps) :=
  .step (h.step (by unfold highState; split <;> decide)) (stay lowState_wait (by decide) (h.toLow hk))

/-- Each low and high phase of the peripheral's clock takes the SEND one cell further (70_reset_and_hazards.md R227). -/
theorem phases {phases : List (Nat × Nat)} (hlong : longEnough phases) (hk : k + phases.length ≤ 9)
    (h : Sends v (lowState k) (cellIndex k) (clockPulses phases ++ ps) s) :
    Reaches (clockPulses phases).length s (Sends v (lowState (k + phases.length)) (cellIndex (k + phases.length)) ps) := by
  induction phases generalizing k s with
  | nil => exact .zero h
  | cons ph later ih =>
    obtain ⟨lo, hi⟩ := ph
    obtain ⟨⟨hlo, hhi⟩, hlater⟩ := List.forall_mem_cons.mp hlong
    simp only at hlo hhi
    obtain ⟨m, rfl⟩ := Nat.exists_eq_add_of_le' (Nat.le_of_succ_le hlo)
    obtain ⟨n, rfl⟩ := Nat.exists_eq_add_of_le' (Nat.le_of_succ_le hhi)
    rw [List.length_cons] at hk ⊢
    have hsplit : clockPulses ((m + 2, n + 1) :: later) ++ ps =
        clockLow (m + 2) ++ (silence (n + 1) ++ (clockPulses later ++ ps)) := by simp [clockPulses]
    have hlength : (clockPulses ((m + 2, n + 1) :: later)).length = m + 2 + (n + 1 + (clockPulses later).length) := by
      simp [clockPulses, clockLow, silence, Nat.add_assoc]
    rw [hsplit] at h
    rw [hlength, Nat.add_comm later.length, ← Nat.add_assoc k]
    exact (h.lowPhase (by omega)).trans fun t ht => (ht.highPhase (by omega)).trans fun u hu => ih hlater (by omega) hu

/-! ### The lines while a cell is on the data line -/

/-- The clock has the level the peripheral gives it while a cell is on the data line (20_memory.md R61). -/
theorem level_clk (h : Sends v (highState k) i (p :: ps) s) : s.level .clk = p.level .clk := by
  obtain ⟨hclk, -⟩ := (cellsOk_iff s).mp h.cells
  refine h.level_of_released (hclk.trans ?_)
  rw [h.seq]
  unfold highState
  split <;> rfl

/-- A data line that the peripheral does not pull has the level that the data cell gives it (R51). -/
theorem level_dat (h : Sends v q i (p :: ps) s) (hp : p.dat = false) : s.level .dat = !s.expectedDatCell.pulls := by
  obtain ⟨-, hdat⟩ := (cellsOk_iff s).mp h.cells
  have hpull : s.env.pull .dat = false := (h.env_pull .dat).trans hp
  rw [State.level, State.enginePull, cell_dat, hdat, hpull, resolve, Bool.or_false]

/-- The start cell is on the line while the SEND waits for the peripheral (41_send.md R125). -/
theorem start_on_line (h : Sends v .txWaitDev i (p :: ps) s) (hp : p.dat = false) :
    (frameCells v)[0]? = some (s.level .dat) := by
  rw [h.level_dat hp]
  simp only [State.expectedDatCell, h.seq]
  rfl

/-- `PAR` is the parity bit of the byte while it is on the line (R129). -/
theorem par_eq (h : Sends v .txParWh i ps s) : s.par = parity v := by
  have hop : s.op = 1 ∨ s.op = 3 := by simpa [opOk_iff, h.seq, SeqState.ops] using h.op
  have hpar := (parOk_iff s).mp h.par
  obtain hop | hop := hop <;> simpa [h.seq, hop, h.opa] using hpar

/-- Each later cell of the frame is on the line when it has been driven: a data bit by its index, the parity bit, and the stop bit by
the release of the line (R128 to R130). -/
theorem cell_on_line (hk : k ≤ 9) (h : Sends v (highState (k + 1)) (cellIndex (k + 1)) (p :: ps) s) (hp : p.dat = false) :
    (frameCells v)[k + 1]? = some (s.level .dat) := by
  rw [h.level_dat hp]
  have hseq := h.seq
  obtain rfl | rfl | h8 : k = 8 ∨ k = 9 ∨ k < 8 := by omega
  · simp only [highState] at hseq h
    simp only [State.expectedDatCell, hseq, h.par_eq]
    simp [frameCells, dataCells, Cell.pulls]
  · simp only [highState] at hseq
    simp only [State.expectedDatCell, hseq]
    rfl
  · have hq : s.seq = .txBitWh := by rw [hseq]; interval_cases k <;> rfl
    have hindex : (cellIndex (k + 1)).toNat = k := by interval_cases k <;> rfl
    simp only [State.expectedDatCell, hq, h.opa, h.bitCnt]
    simp [frameCells, dataCells, List.getElem?_append, h8, Cell.pulls, selectBit, hindex]

/-- An accepted SEND begins in TX_PARITY (10_state.md R37). -/
theorem of_accept (hr : s.released) (hn : s.env.noReset) (b : Byte) :
    Sends v .txParity s.bitCnt s.env.pulls.tail (s.accept 1 v b .txParity).endCycle where
  seq := rfl
  bitCnt := rfl
  opa := rfl
  cells := (cellsOk_iff _).mpr hr
  op := rfl
  bitCntOk := rfl
  par := rfl
  noReset := noReset_advance hn
  pulls := advance_pulls s.env

end Sends

theorem inhibitCycles_pos_of_lawful {p : Params} (h : p.lawful = true) : 1 ≤ p.inhibitCycles := by
  unfold Params.lawful at h
  exact of_decide_eq_true (Bool.and_eq_true_iff.mp h).2

/-- Settles O48: the setup, the silence before the first low phase, and then one cell of the frame a phase. -/
theorem sendPutsTheFrameOnTheWire : Obligations.SendPutsTheFrameOnTheWire := by
  intro s v b p setup later gap low phases hi hrel href hn hlen hgap hlow hlong hcount hpulls
  obtain ⟨g, rfl⟩ := Nat.exists_eq_add_of_le' hgap
  obtain ⟨m, rfl⟩ := Nat.exists_eq_add_of_le' hlow
  obtain ⟨-, hlawful⟩ := (sendingRefusal_none_iff s).mp href
  have hstart := (Sends.of_accept (v := v) hrel hn b).setup (inhibitCycles_pos_of_lawful hlawful)
  have hsilence : silence (g + 1) = silence g ++ silence 1 := List.replicate_add _ _ _
  have hclock : clockLow (m + 3) = clockLow (m + 2) ++ clockLow 1 := List.replicate_add (m + 2) 1 _
  have hdrop : s.env.pulls.tail.drop setup.length =
      silence g ++ (silence 1 ++ (clockPulses phases ++ (clockLow (m + 2) ++ (clockLow 1 ++ later)))) := by
    simp [hpulls, hsilence, hclock]
  simp only [endCycle_params, accept_params, ← hlen, hdrop] at hstart
  have hwaits := hstart.trans fun t ht => ht.stay (n := g) (l := .clk) (x := false) rfl (by decide)
  refine ⟨_, present_of_eq_none hi href _, ?_, ?_⟩
  · obtain ⟨u, hu, hsend⟩ := hwaits
    exact ⟨u, hu, hsend.level_of_wait (l := .clk) (x := false) rfl, hsend.start_on_line rfl⟩
  · have hcells := ((hwaits.trans fun t ht => ht.stay (n := 1) (l := .clk) (x := false) rfl (by decide)).trans fun t ht =>
      ht.phases (k := 0) hlong (by omega)).trans fun t ht => ht.lowPhase (by omega)
    obtain ⟨u, hu, hsend⟩ := hcells
    rw [Nat.zero_add] at hsend
    exact ⟨u, hu, hsend.level_clk, hsend.cell_on_line hcount rfl⟩

end Sys2Proof.Machine
end

section
/-! Command words (spec 30_encoding.md R80 to R89): a word is its three fields, decoding reads them and encoding writes them, and a
row of the opcode map fits the words with its opcode. -/

namespace Sys2Proof.Machine

/-! ### The fields of a word -/

theorem fieldOp_append (op : BitVec 2) (a b : Byte) : fieldOp (op ++ a ++ b) = op :=
  (BitVec.extractLsb'_append_eq_of_le (by decide)).trans BitVec.extractLsb'_append_eq_left

theorem fieldA_append (op : BitVec 2) (a b : Byte) : fieldA (op ++ a ++ b) = a :=
  (BitVec.extractLsb'_append_eq_of_le (by decide)).trans BitVec.extractLsb'_append_eq_right

theorem fieldB_append (op : BitVec 2) (a b : Byte) : fieldB (op ++ a ++ b) = b :=
  BitVec.extractLsb'_append_eq_right

@[simp] theorem fieldOp_encode (i : Instr) : fieldOp (encode i) = i.opcode := fieldOp_append ..
@[simp] theorem fieldA_encode (i : Instr) : fieldA (encode i) = i.operandA := fieldA_append ..
@[simp] theorem fieldB_encode (i : Instr) : fieldB (encode i) = i.operandB := fieldB_append ..

/-- The three fields are all the bits of the word (R80). -/
theorem fields_append (w : CmdWord) : fieldOp w ++ fieldA w ++ fieldB w = w := by
  have hhigh : fieldOp w ++ fieldA w = w.extractLsb' 8 10 := BitVec.extractLsb'_append_extractLsb'_eq_extractLsb' rfl
  rw [hhigh]
  exact (BitVec.extractLsb'_append_extractLsb'_eq_extractLsb' rfl).trans BitVec.extractLsb'_eq_self

/-! ### Which command a word decodes to -/

/-- The mask of the opcode map keeps the opcode alone (R82). -/
theorem word_and_mask (w : CmdWord) : w &&& 0x30000#18 = (fieldOp w).setWidth 18 <<< 16 := by
  conv_lhs => rw [← fields_append w]
  exact Laws.RowOfWord.word_masked _ _ _

/-- A word fits a command's row iff it has the command's opcode (R82). -/
theorem row_fits_iff (i : Instr) (w : CmdWord) : i.row.fits w = true ↔ fieldOp w = i.opcode := by
  have hpattern : i.row.fits w = true ↔ (fieldOp w).setWidth 18 <<< 16 = i.row.pattern := by
    cases i <;> simp only [OpcodeRow.fits, Instr.row, rowConfig, rowSend, rowRecv, rowSendcmd, word_and_mask, beq_iff_eq]
  have hopcode : ∀ op : BitVec 2, op.setWidth 18 <<< 16 = i.row.pattern ↔ op = i.opcode := by
    cases i <;> simp only [Instr.row, rowConfig, rowSend, rowRecv, rowSendcmd, Instr.opcode] <;> decide
  exact hpattern.trans (hopcode _)

/-- Decoding takes the row of the opcode and the two operand fields, none of the word's other rows being tried first (R82). -/
theorem decode_of_opcode {i : Instr} {w : CmdWord} (h : fieldOp w = i.opcode) :
    decode w = i.row.build (fieldA w) (fieldB w) := by
  have hconfig : rowConfig.fits w = true ↔ fieldOp w = 0 := row_fits_iff (.config 0 0) w
  have hsend : rowSend.fits w = true ↔ fieldOp w = 1 := row_fits_iff (.send 0 0) w
  have hrecv : rowRecv.fits w = true ↔ fieldOp w = 2 := row_fits_iff (.recv 0 0) w
  cases i <;> simp [decode, hconfig, hsend, hrecv, h, Instr.opcode, Instr.row]

/-- Each command's word fits the command's own row (R82). -/
theorem rowOfWord (i : Instr) : Laws.RowOfWord.Statement i := by
  cases i with
  | config clk dat => exact Laws.RowOfWord.config clk dat
  | send v b => exact Laws.RowOfWord.send v b
  | recv a b => exact Laws.RowOfWord.recv a b
  | sendcmd c b => exact Laws.RowOfWord.sendcmd c b

/-! ### Decoding and encoding -/

/-- The decoder finds in a command's word the command with all its operand bits (R80, R83). -/
@[simp] theorem decode_encode (i : Instr) : decode (encode i) = i := by
  obtain ⟨-, hbuild⟩ := rowOfWord i
  rw [decode_of_opcode (fieldOp_encode i), fieldA_encode, fieldB_encode, hbuild]

theorem opcode_cases : ∀ op : BitVec 2, op = 0 ∨ op = 1 ∨ op = 2 ∨ op = 3 := by decide

/-- A word is written by any command with its three fields (R80). -/
theorem encode_eq_of_fields {i : Instr} {w : CmdWord} (hop : i.opcode = fieldOp w) (ha : i.operandA = fieldA w)
    (hb : i.operandB = fieldB w) : encode i = w := by
  rw [encode, hop, ha, hb, fields_append]

/-- Every word is the word of a command: the four opcodes are all the values of the field (R83). -/
theorem exists_encode_eq (w : CmdWord) : ∃ i, encode i = w := by
  obtain hop | hop | hop | hop := opcode_cases (fieldOp w)
  · exact ⟨.config (fieldA w) (fieldB w), encode_eq_of_fields hop.symm rfl rfl⟩
  · exact ⟨.send (fieldA w) (fieldB w), encode_eq_of_fields hop.symm rfl rfl⟩
  · exact ⟨.recv (fieldA w) (fieldB w), encode_eq_of_fields hop.symm rfl rfl⟩
  · exact ⟨.sendcmd (fieldA w) (fieldB w), encode_eq_of_fields hop.symm rfl rfl⟩

/-- No bit of a word is lost in its command (R80, R83). -/
@[simp] theorem encode_decode (w : CmdWord) : encode (decode w) = w := by
  obtain ⟨i, rfl⟩ := exists_encode_eq w
  rw [decode_encode]

/-- Settles O1: the decoder reads the fields that the encoder wrote, and every word is some command's. -/
theorem decodeAndEncodeAgree : Obligations.DecodeAndEncodeAgree :=
  ⟨fun i _ => decode_encode i, encode_decode⟩

/-! ### The rows of the opcode map -/

theorem row_mem_opcodeRows (i : Instr) : i.row ∈ opcodeRows := by cases i <;> simp [Instr.row, opcodeRows]

theorem mask_of_mem_opcodeRows : ∀ r ∈ opcodeRows, r.mask = 0x30000#18 := by decide

/-- Two rows with one pattern are one row, as its mnemonic says (R82). -/
theorem mnemonic_of_pattern_eq :
    ∀ r ∈ opcodeRows, ∀ r' ∈ opcodeRows, r.pattern = r'.pattern → r.mnemonic = r'.mnemonic := by
  decide

/-- A word fits one row at most: all rows have one mask, and their patterns differ (R82). -/
theorem mnemonic_of_fits {w : CmdWord} {r r' : OpcodeRow} (hr : r ∈ opcodeRows) (hr' : r' ∈ opcodeRows)
    (h : r.fits w = true) (h' : r'.fits w = true) : r.mnemonic = r'.mnemonic := by
  rw [OpcodeRow.fits, beq_iff_eq, mask_of_mem_opcodeRows _ hr] at h
  rw [OpcodeRow.fits, beq_iff_eq, mask_of_mem_opcodeRows _ hr'] at h'
  exact mnemonic_of_pattern_eq r hr r' hr' (h.symm.trans h')

/-- Settles O2: the row of the command whose word it is. -/
theorem everyWordFitsExactlyOneRow : Obligations.EveryWordFitsExactlyOneRow := by
  intro w
  obtain ⟨i, rfl⟩ := exists_encode_eq w
  obtain ⟨hfits, -⟩ := rowOfWord i
  exact ⟨i.row, row_mem_opcodeRows i, hfits, decode_of_opcode (fieldOp_encode i),
    fun r hr h => mnemonic_of_fits hr (row_mem_opcodeRows i) h hfits⟩

/-! ### Assembly text and the spec's own words -/

/-- A line of assembly writes 0 in the operand bits that its command does not use (R83, R85). -/
theorem assemblerForm_of_instr? {l : AsmLine} {i : Instr} (h : l.instr? = some i) : i.assemblerForm = true := by
  cases l with
  | config clk dat =>
    simp only [AsmLine.instr?] at h
    split at h
    · cases h
      rfl
    · cases h
  | send v =>
    obtain ⟨x, -, rfl⟩ := Option.map_eq_some_iff.mp h
    rfl
  | recv =>
    cases h
    rfl
  | sendcmd c =>
    obtain ⟨x, -, rfl⟩ := Option.map_eq_some_iff.mp h
    rfl

/-- Settles O4: the form of the command by the form of the line, and the word by decoding what was encoded. -/
theorem assembledLinesDecode : Obligations.AssembledLinesDecode :=
  fun _ i h => ⟨assemblerForm_of_instr? h, congrArg (Option.map encode) h, decode_encode i⟩

/-- Settles O3: each of the words is the encoding of its command. -/
theorem workedWordsDecode : Obligations.WorkedWordsDecode :=
  ⟨decode_encode (.config 5 6), decode_encode (.config 255 254), decode_encode (.send 0xF4 0x00),
    decode_encode (.send 0xF4 0xFF), decode_encode (.recv 0x00 0x00), decode_encode (.recv 0xAB 0xCD),
    decode_encode (.sendcmd 0xFF 0x00), decode_encode (.sendcmd 0xFF 0xFF)⟩

/-- Settles O5: the four texts, evaluated. -/
theorem workedTextAssembles : Obligations.WorkedTextAssembles := by
  unfold Obligations.WorkedTextAssembles
  decide

/-! ### One flipped bit -/

/-- A byte and its parity bit hold an odd number of 1s (R88). -/
theorem popcount_add_parity (v : Byte) : (popcount v + (parity v).toNat) % 2 = 1 := by
  obtain ⟨hlaw, -⟩ := parityRomIsOddParity v
  cases hp : parity v with
  | true =>
    have heven := hlaw.mp hp
    simp only [Bool.toNat_true]
    omega
  | false =>
    have hodd : ¬ popcount v % 2 = 0 := fun h => by simp [hlaw.mpr h] at hp
    simp only [Bool.toNat_false]
    omega

theorem nibbleParity_xor : ∀ x y : BitVec 4, nibbleParity (x ^^^ y) = (nibbleParity x ^^ nibbleParity y) := by decide

/-- The parity bit of an exclusive or: the ROM is linear, but for the 1 it adds to make the number odd (20_memory.md R58). -/
theorem parity_xor (v m : Byte) : parity (v ^^^ m) = (parity v ^^ !parity m) := by
  simp only [parity_eq_nibbles, BitVec.extractLsb'_xor, nibbleParity_xor, Bool.not_not, Bool.not_xor, Bool.xor_assoc,
    Bool.xor_left_comm]

/-- A byte with a single 1 needs no more of them (R58). -/
theorem parity_one_shiftLeft {k : Nat} (hk : k < 8) : parity (1#8 <<< k) = false := by
  interval_cases k <;> decide

/-- Settles O36: the number of 1s by the law of the ROM, and a flipped bit is an exclusive or with a single 1. -/
theorem oneFlippedBitFlipsParity : Obligations.OneFlippedBitFlipsParity :=
  fun v => ⟨popcount_add_parity v, fun k hk => by rw [parity_xor, parity_one_shiftLeft hk, Bool.not_false, Bool.xor_true]⟩

end Sys2Proof.Machine
end

section
/-! The operand bits that a command ignores (spec 30_encoding.md R83): two engines that differ in operands no coming state reads, run
alike for ever. CFG_STORE reads both operands, TX_PARITY and TX_BIT_DRIVE the first, and every acceptance writes both. -/

namespace Sys2Proof.Machine

/-! ### Other operands in a state -/

/-- The state with other operands in `OPA` and `OPB` (10_state.md R24, R25). -/
def State.withOperands (s : State) (a b : Byte) : State := { s with opa := a, opb := b }

@[simp] theorem withOperands_seq (s : State) (a b : Byte) : (s.withOperands a b).seq = s.seq := rfl
@[simp] theorem withOperands_bitCnt (s : State) (a b : Byte) : (s.withOperands a b).bitCnt = s.bitCnt := rfl
@[simp] theorem withOperands_dly (s : State) (a b : Byte) : (s.withOperands a b).dly = s.dly := rfl
@[simp] theorem withOperands_env (s : State) (a b : Byte) : (s.withOperands a b).env = s.env := rfl

@[simp] theorem withOperands_level (s : State) (a b : Byte) (l : Line) : (s.withOperands a b).level l = s.level l := by
  cases l <;> rfl

/-! ### One cycle -/

theorem waitPinThen_withOperands (s : State) (a b : Byte) (l : Line) (v : Bool) {f : State → State}
    (hf : f (s.withOperands a b) = (f s).withOperands a b) :
    (s.withOperands a b).waitPinThen l v f = (s.waitPinThen l v f).withOperands a b := by
  by_cases h : s.level l = v
  · rw [waitPinThen_done f h, waitPinThen_done f ((withOperands_level ..).trans h), hf]
  · rw [waitPinThen_blocked f h, waitPinThen_blocked f ((withOperands_level ..).trans_ne h)]

theorem waitPin_withOperands (s : State) (a b : Byte) (l : Line) (v : Bool) (q : SeqState) :
    (s.withOperands a b).waitPin l v q = (s.waitPin l v q).withOperands a b :=
  waitPinThen_withOperands s a b l v rfl

theorem flagIf_withOperands (s : State) (a b : Byte) (c : Bool) (x : Anomaly) :
    (s.withOperands a b).flagIf c x = (s.flagIf c x).withOperands a b := by
  cases c <;> rfl

theorem delay_withOperands (s : State) (a b : Byte) (q : SeqState) :
    (s.withOperands a b).delay q = (s.delay q).withOperands a b := by
  unfold State.delay
  cases h : s.dly == 0 <;> simp only [withOperands_dly, h] <;> rfl

/-- A cycle of a state that does not read an operand takes it along unread; one that does is to find the same operand. -/
theorem microStep_withOperands {s : State} {a b : Byte} (ha : s.seq ∈ [.cfgStore, .txParity, .txBitDrive] → a = s.opa)
    (hb : s.seq = .cfgStore → b = s.opb) :
    microStep (s.withOperands a b) = (microStep s).withOperands a b := by
  unfold microStep
  rw [withOperands_seq]
  cases hq : s.seq with
  | cfgStore =>
    rw [ha (by simp [hq]), hb hq]
    rfl
  | txParity | txBitDrive =>
    rw [ha (by simp [hq])]
    rfl
  | txHold => exact delay_withOperands ..
  | txBitWl =>
    refine waitPinThen_withOperands s a b .clk false ?_
    cases h : lastBit s.bitCnt <;> simp only [withOperands_bitCnt, h] <;> rfl
  | rxBitSample =>
    cases h : lastBit s.bitCnt <;> simp only [rxBitSample, withOperands_bitCnt, h] <;> rfl
  | rxStart => exact flagIf_withOperands { s with acc := 0x00, bitCnt := 0, seq := .rxBitWh } a b _ _
  | rxParSample => exact flagIf_withOperands (s.goto .rxStopWh) a b _ _
  | rxStopSample => exact flagIf_withOperands (s.goto .rxEndWh) a b _ _
  | ackCheck => exact flagIf_withOperands (s.goto .idle) a b _ _
  | txWaitDev | txBitWh | txParWh | txParWl | txAckDat | txAckClk | txIdleDat | txIdleClk => exact waitPin_withOperands ..
  | rxWaitStart | rxBitWh | rxBitWl | rxParWh | rxParWl | rxStopWh | rxStopWl | rxEndWh => exact waitPin_withOperands ..
  | _ => rfl

/-! ### Acceptance -/

/-- An idle engine accepts two commands of one opcode alike, but for the operands it copies (10_state.md R37). -/
theorem exec_of_same_opcode {s t : State} {i j : Instr} (hi : s.seq = .idle) (h : exec i s = .next t)
    (hop : i.opcode = j.opcode) : exec j s = .next (t.withOperands j.operandA j.operandB) := by
  obtain ⟨_, _, rfl, rfl⟩ | ⟨_, _, rfl, href, rfl⟩ | ⟨_, _, rfl, href, rfl⟩ | ⟨_, _, rfl, href, rfl⟩ := exec_idle_cases hi h <;>
    cases j <;> simp [Instr.opcode] at hop
  · exact present_accepted hi _
  · exact present_of_eq_none hi href _
  · exact present_of_eq_none hi href _
  · exact present_of_eq_none hi href _

/-- An idle engine reads neither operand when a command is presented: acceptance writes both (R37). -/
theorem exec_withOperands {s : State} (hi : s.seq = .idle) (i : Instr) (a b : Byte) :
    exec i (s.withOperands a b) = exec i s := by
  cases i <;> simp only [exec, execConfig, execSend, execRecv, execSendcmd, State.present, withOperands_seq, hi] <;> rfl

/-! ### Runs -/

/-- A property of sequencer states that a state has if one that can follow it has it. -/
def BackwardClosed (D : SeqState → Prop) : Prop := ∀ q, ∀ r ∈ q.successors, D r → D q

theorem BackwardClosed.of_microStep {D : SeqState → Prop} (hD : BackwardClosed D) {s : State} (h : D (microStep s).seq) :
    D s.seq := by
  obtain hm | ⟨hm, -⟩ := microStep_seq s
  · exact hD _ _ (nextStates_subset_successors s hm) h
  · rwa [hm] at h

theorem cfgStore_backwardClosed : BackwardClosed (· = .cfgStore) := by
  intro q
  cases q <;> decide

/-- `t` is `s` with other operands, of which the first is the same while `D` holds of the state, and the second in CFG_STORE. -/
def DiffersInOperands (D : SeqState → Prop) (s t : State) : Prop :=
  ∃ a b, t = s.withOperands a b ∧ (D s.seq → a = s.opa) ∧ (s.seq = .cfgStore → b = s.opb)

namespace DiffersInOperands

variable {D : SeqState → Prop} {s t u : State}

theorem refl (D : SeqState → Prop) (s : State) : DiffersInOperands D s s := ⟨s.opa, s.opb, rfl, fun _ => rfl, fun _ => rfl⟩

/-- If `D` holds of the readers of `OPA` and of all that comes before them, the two states stay so. -/
theorem step (hread : ∀ q ∈ [.cfgStore, .txParity, .txBitDrive], D q) (hD : BackwardClosed D) (h : DiffersInOperands D s t)
    (hs : step s = .next u) : ∃ w, Machine.step t = .next w ∧ DiffersInOperands D u w := by
  obtain ⟨a, b, rfl, ha, hb⟩ := h
  obtain ⟨hr, rfl⟩ | ⟨hr, hv, hi, hexec⟩ | ⟨hr, hv, rfl⟩ := step_cases hs
  · exact ⟨_, step_reset hr, refl D s.resetCycle⟩
  · exact ⟨u, (step_presented (s := s.withOperands a b) hr hv).trans ((exec_withOperands hi _ a b).trans hexec), refl D u⟩
  · have hcycle : (s.withOperands a b).runCycle = s.runCycle.withOperands a b :=
      congrArg State.endCycle (microStep_withOperands (fun hq => ha (hread _ hq)) hb)
    have hframe := microStep_frame s
    refine ⟨s.runCycle.withOperands a b, ?_, a, b, rfl, fun hd => (ha (hD.of_microStep hd)).trans hframe.opa.symm,
      fun hc => (hb (cfgStore_backwardClosed.of_microStep hc)).trans hframe.opb.symm⟩
    rw [← hcycle]
    by_cases hi : s.seq = .idle
    · exact step_quiet hr (hv hi)
    · exact step_busy hr hi

theorem run (hread : ∀ q ∈ [.cfgStore, .txParity, .txBitDrive], D q) (hD : BackwardClosed D) {n : Nat}
    (h : DiffersInOperands D s t) (hs : run n s = .next u) : ∃ w, Machine.run n t = .next w ∧ DiffersInOperands D u w := by
  induction n generalizing s t with
  | zero =>
    cases hs
    exact ⟨t, rfl, h⟩
  | succ n ih =>
    cases hst : Machine.step s with
    | next s' =>
      obtain ⟨t', ht', h'⟩ := h.step hread hD hst
      rw [run_succ_next n hst] at hs
      rw [run_succ_next n ht']
      exact ih h' hs
    | fault r => exact r.casesOn
    | refused r => simp [Machine.run, hst] at hs

end DiffersInOperands

/-- The states of a command before its receive half, the only ones from which a cycle leads to a state that reads `OPA`. -/
def SeqState.beforeReception (q : SeqState) : Bool := decide (1 ≤ q.code.toNat) && decide (q.code.toNat ≤ 20)

theorem beforeReception_backwardClosed : BackwardClosed (fun q => q.beforeReception = true) := by
  intro q
  cases q <;> decide

/-- What an accepted command leaves in `OPA` and `SEQ` (10_state.md R37). -/
theorem exec_opa_seq {s t : State} {i : Instr} (hi : s.seq = .idle) (h : exec i s = .next t) :
    t.opa = i.operandA ∧ (t.seq = .cfgStore → i.opcode = 0) ∧ (i.opcode = 2 → t.seq = .rxWaitStart) := by
  obtain ⟨_, _, rfl, rfl⟩ | ⟨_, _, rfl, -, rfl⟩ | ⟨_, _, rfl, -, rfl⟩ | ⟨_, _, rfl, -, rfl⟩ := exec_idle_cases hi h <;>
    simp [Instr.opcode, Instr.operandA]

/-- Of two commands of one opcode, not CONFIG, the second leaves the state of the first with its own operands. -/
theorem differsInOperands_of_exec {D : SeqState → Prop} {s t : State} {i j : Instr} (hi : s.seq = .idle)
    (h : exec i s = .next t) (hop : i.opcode = j.opcode) (hconfig : i.opcode ≠ 0) (hD : D t.seq → j.operandA = i.operandA) :
    ∃ t', exec j s = .next t' ∧ DiffersInOperands D t t' := by
  obtain ⟨hopa, hcfg, -⟩ := exec_opa_seq hi h
  exact ⟨_, exec_of_same_opcode hi h hop, _, _, rfl, fun hd => (hD hd).trans hopa.symm,
    fun hq => absurd (hcfg hq) hconfig⟩

/-- Two commands of one opcode, not CONFIG, with the same first operand run alike but for `OPB`. -/
theorem run_of_same_operandA {s t : State} {i j : Instr} (hi : s.seq = .idle) (h : exec i s = .next t)
    (hop : i.opcode = j.opcode) (hconfig : i.opcode ≠ 0) (ha : j.operandA = i.operandA) :
    ∃ t', exec j s = .next t' ∧ ∀ n u, run n t = .next u → ∃ x, run n t' = .next { u with opb := x } := by
  obtain ⟨t', ht', hdiff⟩ := differsInOperands_of_exec (D := fun _ => True) hi h hop hconfig fun _ => ha
  refine ⟨t', ht', fun n u hu => ?_⟩
  obtain ⟨_, hw, x, y, rfl, hx, -⟩ := hdiff.run (fun _ _ => trivial) (fun _ _ _ _ => trivial) hu
  refine ⟨y, ?_⟩
  rw [hw, hx trivial]
  rfl

/-- Settles O54: SEND and SENDCMD read no `OPB` after acceptance, and a RECV neither operand before the next command writes both. -/
theorem ignoredOperandsMakeNoDifference : Obligations.IgnoredOperandsMakeNoDifference := by
  intro s t hi
  refine ⟨fun v b b' h => run_of_same_operandA hi h rfl (by simp [Instr.opcode]) rfl,
    fun c b b' h => run_of_same_operandA hi h rfl (by simp [Instr.opcode]) rfl, fun a a' b b' h => ?_⟩
  obtain ⟨-, -, hseq⟩ := exec_opa_seq hi h
  obtain ⟨t', ht', hdiff⟩ := differsInOperands_of_exec (D := fun q => q.beforeReception = true) (j := .recv a' b') hi h rfl
    (by simp [Instr.opcode]) (by rw [hseq rfl]; exact fun hd => absurd hd (by decide))
  refine ⟨t', ht', fun n u hu => ?_⟩
  obtain ⟨_, hw, x, y, rfl, -⟩ := hdiff.run (by decide) beforeReception_backwardClosed hu
  exact ⟨x, y, hw⟩

end Sys2Proof.Machine
end

section
/-! Runs along a plan: from the registers of one state to those of another while the peripheral's pulls fit the plan's stretches,
whatever else the inputs are (spec 44_line_primitives.md R174; 10_state.md R37, R46). -/

namespace Sys2Proof.Machine

/-! ### Runs along given pulls -/

/-- The registers of a state under other inputs to come. -/
def State.withEnv (s : State) (e : Env) : State := { s with env := e }

@[simp] theorem withEnv_seq (s : State) (e : Env) : (s.withEnv e).seq = s.seq := rfl
@[simp] theorem withEnv_env (s : State) (e : Env) : (s.withEnv e).env = e := rfl
@[simp] theorem withEnv_cell (s : State) (e : Env) (l : Line) : (s.withEnv e).cell l = s.cell l := by cases l <;> rfl
@[simp] theorem withEnv_nextStates (s : State) (e : Env) : (s.withEnv e).nextStates = s.nextStates := rfl

/-- In the cycles with the pulls `ps` the machine is busy and goes from the registers of `s` to those of `t`, whatever the host
presents but a reset. -/
def Passes (s : State) (ps : List Pulls) (t : State) : Prop :=
  ∀ (host : List HostIn) (later : List Pulls) (tick : Nat), (∀ h ∈ host, h.rst = false) →
    (∀ k, k < ps.length → ∃ u, run k (s.withEnv ⟨host, ps ++ later, tick⟩) = .next u ∧ u.busy = true) ∧
    run ps.length (s.withEnv ⟨host, ps ++ later, tick⟩) = .next (t.withEnv ⟨host.drop ps.length, later, tick⟩)

namespace Passes

variable {s t u : State} {p : Pulls} {ps qs : List Pulls}

theorem refl (s : State) : Passes s [] s := fun _ _ _ _ => ⟨fun _ hk => absurd hk (Nat.not_lt_zero _), rfl⟩

theorem trans (h : Passes s ps t) (h' : Passes t qs u) : Passes s (ps ++ qs) u := by
  intro host later tick hrst
  rw [List.append_assoc, List.length_append]
  obtain ⟨hbusy, hrun⟩ := h host (qs ++ later) tick hrst
  obtain ⟨hbusy', hrun'⟩ := h' (host.drop ps.length) later tick fun x hx => hrst x (List.mem_of_mem_drop hx)
  refine ⟨fun k hk => ?_, ?_⟩
  · by_cases hlt : k < ps.length
    · exact hbusy k hlt
    · obtain ⟨j, rfl⟩ := Nat.exists_eq_add_of_le (Nat.le_of_not_lt hlt)
      rw [run_add _ _ hrun]
      exact hbusy' j (by omega)
  · rw [run_add _ _ hrun, hrun', List.drop_drop]

/-- One cycle of a busy engine. -/
theorem cycle (hb : s.seq ≠ .idle)
    (h : ∀ e : Env, (∀ l, e.pull l = p.pull l) → microStep (s.withEnv e) = t.withEnv e) : Passes s [p] t := by
  intro host later tick hrst
  have hstep : step (s.withEnv ⟨host, p :: later, tick⟩) = .next (t.withEnv ⟨host.tail, later, tick⟩) := by
    have hpull : ∀ l, (Env.mk host (p :: later) tick).pull l = p.pull l := by
      intro l
      cases l <;> rfl
    have hnow : (Env.mk host (p :: later) tick).hostNow.rst = false := hostNow_rst_of_noReset hrst
    rw [step_busy (s := s.withEnv _) hnow hb, State.runCycle, h _ hpull]
    rfl
  refine ⟨fun k hk => ?_, ?_⟩
  · obtain rfl : k = 0 := by simpa using hk
    exact ⟨_, rfl, by simp [State.busy, hb]⟩
  · rw [← List.drop_one] at hstep
    exact run_succ_next 0 hstep

end Passes

/-- A released line has the level that the peripheral gives it (20_memory.md R51). -/
theorem level_withEnv {s : State} {e : Env} {p : Pulls} {l : Line} (hc : s.cell l = Cell.released) (hp : e.pull l = p.pull l) :
    (s.withEnv e).level l = p.level l := by
  rw [State.level, State.enginePull, withEnv_cell, hc, released_pulls, withEnv_env, hp, Pulls.level]

/-! ### Runs along a plan -/

/-- Pulls that fit two plans in a row are cut where the second begins. -/
theorem fits_append {xs ys : List Stretch} {ps : List Pulls} :
    Fits (xs ++ ys) ps ↔ ∃ first later, ps = first ++ later ∧ Fits xs first ∧ Fits ys later := by
  induction xs generalizing ps with
  | nil => simp [Fits]
  | cons x xs ih =>
    simp only [List.cons_append, Fits, ih]
    constructor
    · rintro ⟨first, _, rfl, hx, mid, later, rfl, hxs, hys⟩
      exact ⟨first ++ mid, later, (List.append_assoc ..).symm, ⟨first, mid, rfl, hx, hxs⟩, hys⟩
    · rintro ⟨_, later, rfl, ⟨first, mid, rfl, hx, hxs⟩, hys⟩
      exact ⟨first, mid ++ later, List.append_assoc .., hx, mid, later, rfl, hxs, hys⟩

theorem fits_singleton {x : Stretch} {ps : List Pulls} : Fits [x] ps ↔ x.Fits ps := by simp [Fits]

/-- With any pulls that fit the plan, the machine goes from the registers of `s` to those of `t`. -/
def Runs (plan : List Stretch) (s t : State) : Prop := ∀ ps, Fits plan ps → Passes s ps t

namespace Runs

variable {s t u : State} {plan plan' : List Stretch}

theorem nil (s : State) : Runs [] s s := by
  rintro _ rfl
  exact .refl s

theorem append (h : Runs plan s t) (h' : Runs plan' t u) : Runs (plan ++ plan') s u := by
  intro ps hps
  obtain ⟨first, later, rfl, hfirst, hlater⟩ := fits_append.mp hps
  exact (h first hfirst).trans (h' later hlater)

/-- A wait with one successor and no effect of its own, on a released line (44_line_primitives.md R174). -/
theorem await {l : Line} {v : Bool} {q : SeqState} (hw : s.seq.wait = some (l, v)) (hbit : s.seq ≠ .txBitWl)
    (hnext : s.nextStates = [q]) (hc : s.cell l = Cell.released) : Runs [.await l v] s (s.goto q) := by
  intro ps hps
  obtain ⟨before, last, rfl, hbefore, hlast⟩ := fits_singleton.mp hps
  have hb : s.seq ≠ .idle := by
    rintro hi
    simp [hi, SeqState.wait] at hw
  have hmet : Passes s [last] (s.goto q) := .cycle hb fun e he => by
    obtain ⟨r, hr, hstep⟩ := microStep_wait (s := s.withEnv e) hw hbit
    rw [withEnv_nextStates, hnext, List.mem_singleton] at hr
    rw [hstep, waitPin_eq_goto, if_pos ((level_withEnv hc (he l)).trans hlast), hr]
    rfl
  induction before with
  | nil => exact hmet
  | cons p before ih =>
    obtain ⟨hp, hbefore⟩ := List.forall_mem_cons.mp hbefore
    have hunmet : Passes s [p] s := .cycle hb fun e he =>
      microStep_unmet (s := s.withEnv e) hw ((level_withEnv hc (he l)).trans_ne hp)
    exact hunmet.trans (ih (fits_singleton.mpr ⟨before, last, rfl, hbefore, hlast⟩) hbefore)

/-- One cycle that reads the released data line. -/
theorem sample {x : Bool} (hb : s.seq ≠ .idle) (hc : s.datCell = Cell.released)
    (h : ∀ e : Env, (s.withEnv e).pinRead .dat = x → microStep (s.withEnv e) = t.withEnv e) : Runs [.sample x] s t := by
  intro ps hps
  obtain ⟨p, rfl, hp⟩ := fits_singleton.mp hps
  exact .cycle hb fun e he => h e ((level_withEnv (l := .dat) hc (he .dat)).trans hp)

/-- One cycle that reads no line. -/
theorem any_one (hb : s.seq ≠ .idle) (h : ∀ e : Env, microStep (s.withEnv e) = t.withEnv e) : Runs [.any 1] s t := by
  intro ps hps
  obtain ⟨p, rfl⟩ := List.length_eq_one_iff.mp (fits_singleton.mp hps)
  exact .cycle hb fun e _ => h e

end Runs

end Sys2Proof.Machine
end

section
/-! A RECV from RX_WAIT_START to RX_DONE (spec 42_receive.md R140 to R151): the registers along its plan, and the clocked cells that
fit it (70_reset_and_hazards.md R227). SENDCMD runs the same states after its first half (43_send_command.md R160). -/

namespace Sys2Proof.Machine

/-! ### The states of a reception -/

/-- The registers of `s` in a reception: `SEQ`, `ACC`, `BITCNT` and STATUS are all that it writes before RX_DONE. -/
def State.receiving (s : State) (q : SeqState) (acc : Byte) (i : BitVec 3) (status : BitVec 3) : State :=
  { s with seq := q, acc := acc, bitCnt := i, status := status }

/-- STATUS after a check: its flag is set if it failed (60_exceptions.md R191). -/
def flagged (failed : Bool) (x : Anomaly) (status : BitVec 3) : BitVec 3 := if failed then setFlag x status else status

theorem flagIf_receiving (s : State) (q : SeqState) (acc : Byte) (i status : BitVec 3) (e : Env) (failed : Bool) (x : Anomaly) :
    ((s.receiving q acc i status).withEnv e).flagIf failed x = (s.receiving q acc i (flagged failed x status)).withEnv e := by
  cases failed <;> rfl

section Receiving

variable {s : State} {acc : Byte} {i status : BitVec 3}

/-- A clock pulse takes a reception from a wait for the high level, over one for the low level, to the sample (R143 to R145). -/
theorem receiving_pulse (hrel : s.released) {high low next : SeqState} (hhigh : high.wait = some (.clk, true))
    (hlow : low.wait = some (.clk, false)) (hlow' : low ≠ .txBitWl)
    (hnext : (s.receiving high acc i status).nextStates = [low]) (hnext' : (s.receiving low acc i status).nextStates = [next]) :
    Runs pulse (s.receiving high acc i status) (s.receiving next acc i status) := by
  obtain ⟨hclk, -⟩ := hrel
  have hhigh' : high ≠ .txBitWl := by
    rintro rfl
    cases hhigh
  exact (Runs.await (s := s.receiving high acc i status) (l := .clk) hhigh hhigh' hnext hclk).append
    (Runs.await (s := s.receiving low acc i status) (l := .clk) hlow hlow' hnext' hclk)

/-- A cell after the start cell: a clock pulse, then the sample (R143 to R145). -/
def cellPlan (x : Bool) : List Stretch := pulse ++ [.sample x]

/-- The start cell, after which the accumulator and the bit count are clear (R141, R142). -/
theorem receiving_start (hrel : s.released) (x : Bool) :
    Runs [.await .clk false, .sample x] (s.receiving .rxWaitStart acc i status)
      (s.receiving .rxBitWh 0x00 0 (flagged x .fe status)) := by
  obtain ⟨hclk, hdat⟩ := hrel
  have hwait : Runs [.await .clk false] (s.receiving .rxWaitStart acc i status) (s.receiving .rxStart acc i status) :=
    .await rfl (by simp [State.receiving]) rfl hclk
  refine hwait.append (.sample (by simp [State.receiving]) hdat fun e hx => ?_)
  refine Eq.trans ?_ (flagIf_receiving ..)
  change rxStart _ = _
  rw [rxStart, hx, Bool.bne_false]
  rfl

/-- The parity cell and its check (R144). -/
theorem receiving_parity (hrel : s.released) (x : Bool) :
    Runs (cellPlan x) (s.receiving .rxParWh acc i status)
      (s.receiving .rxStopWh acc i (flagged (x != parity acc) .pe status)) := by
  refine (receiving_pulse hrel (low := .rxParWl) (next := .rxParSample) rfl rfl (by decide) rfl rfl).append ?_
  obtain ⟨-, hdat⟩ := hrel
  refine .sample (by simp [State.receiving]) hdat fun e hx => ?_
  refine Eq.trans ?_ (flagIf_receiving ..)
  change rxParSample _ = _
  rw [rxParSample, hx]
  rfl

/-- The stop cell and its check (R145). -/
theorem receiving_stop (hrel : s.released) (x : Bool) :
    Runs (cellPlan x) (s.receiving .rxStopWh acc i status)
      (s.receiving .rxEndWh acc i (flagged (!x) .fe status)) := by
  refine (receiving_pulse hrel (low := .rxStopWl) (next := .rxStopSample) rfl rfl (by decide) rfl rfl).append ?_
  obtain ⟨-, hdat⟩ := hrel
  refine .sample (by simp [State.receiving]) hdat fun e hx => ?_
  refine Eq.trans ?_ (flagIf_receiving ..)
  change rxStopSample _ = _
  rw [rxStopSample, hx, Bool.bne_true]
  rfl

/-- The end of the frame, after which the byte is published (R146, R147). -/
theorem receiving_end (hrel : s.released) :
    Runs [.await .clk true, .any 1] (s.receiving .rxEndWh acc i status)
      { s.receiving (if s.op == 3 then .ackCheck else .idle) acc i status with rxData := acc } := by
  obtain ⟨hclk, -⟩ := hrel
  have hwait : Runs [.await .clk true] (s.receiving .rxEndWh acc i status) (s.receiving .rxDone acc i status) :=
    .await rfl (by simp [State.receiving]) rfl hclk
  exact hwait.append (.any_one (by simp [State.receiving]) fun _ => rfl)

/-! ### The data bits -/

/-- The lowest `k` bits of a byte, the others 0: what the accumulator holds after `k` data cells. -/
def lowBits (v : Byte) (k : Nat) : Byte := (v.setWidth k).setWidth 8

theorem lowBits_zero (v : Byte) : lowBits v 0 = 0x00 := by
  ext j hj
  simp [lowBits]

theorem lowBits_eight (v : Byte) : lowBits v 8 = v := by simp [lowBits]

/-- The next data bit completes one more bit of the byte: the position is still 0 (R143). -/
theorem placeBit_lowBits (v : Byte) {k : Nat} (hk : k < 8) :
    placeBit (lowBits v k) (BitVec.ofNat 3 k) (v.getLsbD k) = lowBits v (k + 1) := by
  have hindex : (BitVec.ofNat 3 k).toNat = k := Nat.mod_eq_of_lt hk
  apply BitVec.eq_of_getLsbD_eq
  intro j hj
  simp only [placeBit, lowBits, hindex, BitVec.getLsbD_or, BitVec.getLsbD_setWidth, BitVec.getLsbD_shiftLeft,
    BitVec.getLsbD_ofBool]
  obtain hlt | rfl | hgt := Nat.lt_trichotomy j k
  · simp [hj, hlt, hlt.trans (Nat.lt_succ_self k)]
  · simp [hj]
  · simp [hgt.not_gt, Nat.not_lt.mpr hgt, Nat.sub_ne_zero_of_lt hgt]

theorem ofNat_eq_seven_iff {k : Nat} (hk : k < 8) : BitVec.ofNat 3 k = 7#3 ↔ k = 7 := by
  interval_cases k <;> decide

/-- RX_BIT_SAMPLE puts the data cell in its place and goes on to the next bit, or after bit 7 to the parity bit (R143). -/
theorem receiving_bit (hrel : s.released) (v : Byte) {k : Nat} (hk : k < 8) :
    Runs (cellPlan (v.getLsbD k)) (s.receiving .rxBitWh (lowBits v k) (BitVec.ofNat 3 k) status)
      (if k = 7 then s.receiving .rxParWh (lowBits v 8) 7 status
        else s.receiving .rxBitWh (lowBits v (k + 1)) (BitVec.ofNat 3 (k + 1)) status) := by
  refine (receiving_pulse hrel (low := .rxBitWl) (next := .rxBitSample) rfl rfl (by decide) rfl rfl).append ?_
  obtain ⟨-, hdat⟩ := hrel
  refine .sample (by simp [State.receiving]) hdat fun e hx => ?_
  have hplace := placeBit_lowBits v hk
  rw [← hx] at hplace
  obtain ⟨h7, he⟩ | ⟨h7, he⟩ :=
    rxBitSample_cases ((s.receiving .rxBitSample (lowBits v k) (BitVec.ofNat 3 k) status).withEnv e)
  · obtain rfl : k = 7 := (ofNat_eq_seven_iff hk).mp h7
    refine he.trans ?_
    rw [if_pos rfl, ← hplace]
    rfl
  · have h7' : k ≠ 7 := fun h => h7 ((ofNat_eq_seven_iff hk).mpr h)
    refine he.trans ?_
    rw [if_neg h7', ← hplace, BitVec.ofNat_add]
    rfl

/-- The eight data cells leave the byte in the accumulator (R143). -/
theorem receiving_data (hrel : s.released) (v : Byte) :
    Runs ((dataCells v).flatMap cellPlan) (s.receiving .rxBitWh 0x00 0 status) (s.receiving .rxParWh v 7 status) := by
  have hbits : ∀ k ≤ 7, Runs (((List.range k).map v.getLsbD).flatMap cellPlan) (s.receiving .rxBitWh 0x00 0 status)
      (s.receiving .rxBitWh (lowBits v k) (BitVec.ofNat 3 k) status) := by
    intro k hk
    induction k with
    | zero =>
      rw [lowBits_zero]
      exact .nil _
    | succ k ih =>
      rw [List.range_succ, List.map_append, List.flatMap_append]
      have hbit := receiving_bit (status := status) hrel v (k := k) (by omega)
      rw [if_neg (by omega)] at hbit
      simpa using (ih (by omega)).append hbit
  have hlast := (hbits 7 le_rfl).append (receiving_bit hrel v (by decide))
  rw [if_pos rfl, lowBits_eight] at hlast
  simpa [dataCells, List.range_succ] using hlast

/-! ### The whole command -/

/-- The flags that the three checks set, one after the other (60_exceptions.md R196). -/
theorem receptionStatus_eq_flagged (start : Bool) (v : Byte) (par stop : Bool) :
    receptionStatus start v par stop = flagged (!stop) .fe (flagged (par != parity v) .pe (flagged start .fe 0)) := by
  unfold receptionStatus
  cases start <;> cases stop <;> cases par != parity v <;> rfl

/-- The plan of a RECV: the start cell, the other cells, the end of the frame (R151). -/
theorem recvPlan_eq (start : Bool) (v : Byte) (par stop : Bool) :
    recvPlan start v par stop = [.await .clk false, .sample start] ++
      ((dataCells v ++ [par, stop]).flatMap cellPlan ++ [.await .clk true, .any 1]) := by
  rw [recvPlan, List.append_assoc]
  rfl

/-- A reception from RX_WAIT_START to RX_DONE leaves the sampled byte and the flags of the failed checks (R148, R196). -/
theorem receiving_frame (hrel : s.released) (start : Bool) (v : Byte) (par stop : Bool) :
    Runs (recvPlan start v par stop) (s.receiving .rxWaitStart acc i 0)
      { s.receiving (if s.op == 3 then .ackCheck else .idle) v 7 (receptionStatus start v par stop) with rxData := v } := by
  have hplan : recvPlan start v par stop = [.await .clk false, .sample start] ++ (dataCells v).flatMap cellPlan ++
      cellPlan par ++ cellPlan stop ++ [.await .clk true, .any 1] := by simp [recvPlan_eq]
  rw [hplan, receptionStatus_eq_flagged]
  exact ((((receiving_start hrel start).append (receiving_data hrel v)).append (receiving_parity hrel par)).append
    (receiving_stop hrel stop)).append (receiving_end hrel)

end Receiving

/-- Settles O49: the acceptance, and the reception along its plan. -/
theorem recvRunsToItsEnd : Obligations.RecvRunsToItsEnd := by
  intro s a b v start par stop p script later hi hrel href hn hpulls hfits
  have henv : s.env = ⟨s.env.host, p :: (script ++ later), s.env.tick⟩ := by rw [← hpulls]
  have hstart : (s.accept 2 a b .rxWaitStart).endCycle =
      ((s.accept 2 a b .rxWaitStart).receiving .rxWaitStart s.acc s.bitCnt 0).withEnv
        ⟨s.env.host.tail, script ++ later, s.env.tick⟩ := by
    rw [State.endCycle, accept_env, henv]
    rfl
  obtain ⟨hbusy, hrun⟩ := receiving_frame (s := s.accept 2 a b .rxWaitStart) hrel start v par stop script hfits
    s.env.host.tail later s.env.tick fun x hx => hn x (List.mem_of_mem_tail hx)
  refine ⟨_, present_of_eq_none hi href _, ?_, ?_⟩
  · rw [hstart]
    exact hbusy
  · rw [hstart, hrun, List.drop_tail, ← hi]
    rfl

/-! ### Clocked cells -/

theorem level_clk_of_pull {p : Pulls} {x : Bool} (h : p.clk = x) : p.level .clk = !x := by
  subst h
  cases hp : p.clk <;> simp [Pulls.level, resolve, Pulls.pull, hp]

/-- A wait for one level of the clock, over cycles with the other (44_line_primitives.md R174). -/
theorem fits_await_clk {x : Bool} {before : List Pulls} {last : Pulls} (hbefore : ∀ p ∈ before, p.clk = x)
    (hlast : last.clk = !x) : Fits [.await .clk x] (before ++ [last]) := by
  refine fits_singleton.mpr ⟨before, last, rfl, fun p hp => ?_, ?_⟩
  · rw [level_clk_of_pull (hbefore p hp)]
    exact Bool.not_ne_self x
  · rw [level_clk_of_pull hlast, Bool.not_not]

/-- A clocked cell begins with a high phase, and in the second cycle of its low phase the data line has the cell's value (R227). -/
theorem ClockedCell.split {x : Bool} {ps : List Pulls} (h : ClockedCell x ps) :
    ∃ p high q r low, ps = p :: high ++ q :: r :: low ∧ p.clk = false ∧ (∀ p ∈ high, p.clk = false) ∧ q.clk = true ∧
      r.level .dat = x ∧ ∀ p ∈ low, p.clk = true := by
  obtain ⟨high, low, rfl, hhigh, hlow, hclkHigh, hclkLow, hdat⟩ := h
  obtain ⟨p, high, rfl⟩ := List.exists_cons_of_length_pos (Nat.zero_lt_of_lt hhigh)
  match low, hlow with
  | q :: r :: low, _ =>
    exact ⟨p, high, q, r, low, rfl, hclkHigh p (by simp), fun p hp => hclkHigh p (by simp [hp]), hclkLow q (by simp),
      hdat r (by simp), fun p hp => hclkLow p (by simp [hp])⟩

/-- After the sample of a cell, while the clock is still low, the cells to come fit the rest of the plan (R227). -/
theorem fits_cells_of_clockedCells {cells : List Bool} {low frame : List Pulls} {q q' : Pulls}
    (hlow : ∀ p ∈ low, p.clk = true) (hcells : ClockedCells cells frame) (hq : q.clk = false) :
    Fits (cells.flatMap cellPlan ++ [.await .clk true, .any 1]) (low ++ (frame ++ [q, q'])) := by
  induction cells generalizing low frame with
  | nil =>
    obtain rfl : frame = [] := hcells
    exact fits_append (xs := [.await .clk true]).mpr
      ⟨low ++ [q], [q'], by simp, fits_await_clk hlow hq, fits_singleton.mpr rfl⟩
  | cons x cells ih =>
    obtain ⟨_, frame, rfl, hx, hcells⟩ := hcells
    obtain ⟨p, high, q₀, r, low', rfl, hp, hhigh, hq₀, hr, hlow'⟩ := hx.split
    have hpulse : Fits pulse (low ++ [p] ++ (high ++ [q₀])) :=
      fits_append (xs := [.await .clk true]).mpr ⟨_, _, rfl, fits_await_clk hlow hp, fits_await_clk hhigh hq₀⟩
    have hcell : Fits (cellPlan x) (low ++ [p] ++ (high ++ [q₀]) ++ [r]) :=
      fits_append.mpr ⟨_, _, rfl, hpulse, fits_singleton.mpr ⟨r, rfl, hr⟩⟩
    rw [List.flatMap_cons, List.append_assoc]
    exact fits_append.mpr ⟨_, _, by simp, hcell, ih hlow' hcells⟩

/-- Clocked cells and two more cycles, the first with a high clock, fit the plan of a RECV (R227). -/
theorem fits_recvPlan_of_clockedCells {start par stop : Bool} {v : Byte} {frame : List Pulls} {q q' : Pulls}
    (hcells : ClockedCells (start :: dataCells v ++ [par, stop]) frame) (hq : q.clk = false) :
    Fits (recvPlan start v par stop) (frame ++ [q, q']) := by
  obtain ⟨_, frame, rfl, hstart, hcells⟩ := hcells
  obtain ⟨p, high, q₀, r, low, rfl, hp, hhigh, hq₀, hr, hlow⟩ := hstart.split
  have hwait : Fits [.await .clk false] (p :: high ++ [q₀]) :=
    fits_await_clk (List.forall_mem_cons.mpr ⟨hp, hhigh⟩) hq₀
  have hfirst : Fits [.await .clk false, .sample start] (p :: high ++ [q₀] ++ [r]) :=
    fits_append (xs := [.await .clk false]).mpr ⟨_, _, rfl, hwait, fits_singleton.mpr ⟨r, rfl, hr⟩⟩
  rw [recvPlan_eq]
  refine fits_append.mpr ⟨_, low ++ (frame ++ [q, q']), ?_, hfirst, fits_cells_of_clockedCells hlow hcells hq⟩
  simp

/-- The frame of a byte fails no check (30_encoding.md R86, R88). -/
theorem receptionStatus_frame (v : Byte) : receptionStatus false v (parity v) true = 0 := by
  simp [receptionStatus]

/-- Settles O51: the cells of the byte's frame fit the plan of a RECV, whose end state has the byte and no flag. -/
theorem receivedFrameGivesTheByte : Obligations.ReceivedFrameGivesTheByte := by
  intro s a b v p q q' frame later hi hrel href hn hpulls hq hcells
  obtain ⟨t, ht, -, hrun⟩ := recvRunsToItsEnd s a b v false (parity v) true p (frame ++ [q, q']) later hi hrel href hn hpulls
    (fits_recvPlan_of_clockedCells hcells hq)
  rw [receptionStatus_frame, List.length_append] at hrun
  exact ⟨t, _, ht, hrun, hi, rfl, rfl⟩

end Sys2Proof.Machine
end

section
/-! CONFIG (spec 40_configure.md R110 to R114): its acceptance and its one busy cycle, alone and repeated. -/

namespace Sys2Proof.Machine

/-- The state `s` two cycles after it takes `CONFIG clk, dat`: the registers of every acceptance (10_state.md R37) and the binding
have new values, and nothing else has (40_configure.md R110). -/
def State.afterConfig (s : State) (clk dat : PinId) : State :=
  { s with op := 0, opa := clk, opb := dat, status := 0b000, clkPin := clk, datPin := dat, configured := true,
           env := s.env.advance.advance }

/-- CFG_STORE after the acceptance of a CONFIG brings an idle engine to that state (40_configure.md R110). -/
theorem runCycle_accept_cfgStore {s : State} (hi : s.seq = .idle) (clk dat : PinId) :
    (s.accept 0 clk dat .cfgStore).endCycle.runCycle = s.afterConfig clk dat := by
  have hstore : (s.accept 0 clk dat .cfgStore).endCycle.runCycle = (s.afterConfig clk dat).goto .idle := rfl
  rw [hstore, ← hi]
  rfl

/-- Settles O16: the acceptance, and the CFG_STORE cycle of a busy engine that is not reset. -/
theorem configStoresBothPins : Obligations.ConfigStoresBothPins := by
  intro s clk dat hi hr
  have hstep := step_busy (s := (s.accept 0 clk dat .cfgStore).endCycle) hr (by simp)
  rw [runCycle_accept_cfgStore hi] at hstep
  exact ⟨_, present_accepted hi _, rfl, hstep⟩

/-- What two cycles of an idle engine leave, the first of which takes a CONFIG and the second of which is without reset. -/
theorem eq_afterConfig_of_exec_step {s t u : State} {clk dat : PinId} (hi : s.seq = .idle)
    (hr : s.env.advance.hostNow.rst = false) (hexec : exec (.config clk dat) s = .next t) (hstep : step t = .next u) :
    u = s.afterConfig clk dat := by
  obtain ⟨t', hexec', -, hstep'⟩ := configStoresBothPins s clk dat hi hr
  cases hexec.symm.trans hexec'
  cases hstep.symm.trans hstep'
  rfl

/-- The registers that a second CONFIG with the same operands writes have those values already (40_configure.md R111). -/
theorem afterConfig_afterConfig (s : State) (clk dat : PinId) :
    (s.afterConfig clk dat).afterConfig clk dat =
      { s.afterConfig clk dat with env := (s.afterConfig clk dat).env.advance.advance } := rfl

/-- Settles O17: the state that the first CONFIG leaves is idle, so the second stores its pins too, and writes what stands there. -/
theorem configIsIdempotent : Obligations.ConfigIsIdempotent := by
  intro s t u clk dat hi hn hexec hstep
  have hn₁ := noReset_advance hn
  obtain rfl := eq_afterConfig_of_exec_step hi (hostNow_rst_of_noReset hn₁) hexec hstep
  have hn₂ : (s.afterConfig clk dat).env.noReset := noReset_advance hn₁
  obtain ⟨t', hexec', -, hstep'⟩ :=
    configStoresBothPins (s.afterConfig clk dat) clk dat hi (hostNow_rst_of_noReset (noReset_advance hn₂))
  rw [← afterConfig_afterConfig]
  exact ⟨t', hexec', hstep'⟩

end Sys2Proof.Machine
end

section
/-! The SEND micro-program cycle by cycle, and the parameters that a SEND needs (spec 41_send.md R121 to R132;
70_reset_and_hazards.md R228). -/

namespace Sys2Proof.Machine

/-! ### Parameters outside the spec -/

theorem sendingRefusal_of_unlawful {s : State} (hb : s.bindingRefusal = none) (hl : s.params.lawful = false) :
    s.sendingRefusal = some .unlawfulParameters := by
  simp [State.sendingRefusal, hb, hl]

/-- Settles O12: the binding is usable, so the parameters decide. -/
theorem sendingNeedsLawfulParameters : Obligations.SendingNeedsLawfulParameters := by
  intro s v b hi hb hp
  have href := sendingRefusal_of_unlawful hb ((lawful_eq_false_iff _).mpr hp)
  simp [exec, execSend, execSendcmd, href, present_refused hi]

/-! ### One cycle of a given state -/

/-- A cycle of a given busy state, `rst` = 0. With `SEQ` put in as a constructor, the cycle of a state that branches on no register
evaluates to its rule in the spec (10_state.md R46). -/
theorem step_of_seq {s : State} {q : SeqState} (hr : s.env.hostNow.rst = false) (h : s.seq = q) (hb : q ≠ .idle) :
    step s = .next (s.goto q).runCycle := by
  subst h
  exact step_busy hr hb

theorem ne_idle_of_wait {q : SeqState} {w : Line × Bool} (hw : q.wait = some w) : q ≠ .idle := by
  rintro rfl
  cases hw

/-- A cycle of a given wait state with one next state: `SEQ` goes there iff the line has the awaited level; left out is TX_BIT_WL,
which also counts the bit (44_line_primitives.md R174). -/
theorem step_wait {s : State} {q r : SeqState} {l : Line} {v : Bool} (hr : s.env.hostNow.rst = false) (h : s.seq = q)
    (hw : q.wait = some (l, v)) (hq : q ≠ .txBitWl) (hnext : (s.goto q).nextStates = [r]) :
    step s = .next { s with seq := if s.level l = v then r else q, env := s.env.advance } := by
  subst h
  obtain ⟨r', hr', he⟩ := microStep_wait hw hq
  obtain rfl : r' = r := List.mem_singleton.mp (hnext ▸ hr')
  rw [step_busy hr (ne_idle_of_wait hw), State.runCycle, he, waitPin_eq_goto]
  rfl

/-- TX_BIT_WL once the clock is low: the parity bit after bit 7, else the next bit (41_send.md R128). -/
theorem txBitWl_of_clk_low {s : State} (h : s.level .clk = false) :
    txBitWl s = if s.bitCnt = 7 then s.goto .txParDrive else { s with bitCnt := s.bitCnt + 1, seq := .txBitDrive } := by
  refine (waitPinThen_done _ h).trans ?_
  simp only [lastBit, beq_iff_eq]

/-- A cycle of TX_HOLD (41_send.md R124). -/
theorem step_txHold {s : State} (hr : s.env.hostNow.rst = false) (h : s.seq = .txHold) :
    step s = .next (s.delay .txStart).endCycle := by
  have hb : s.seq ≠ .idle := by simp [h]
  rw [step_busy hr hb, State.runCycle, microStep, h]
  rfl

/-- A cycle of TX_BIT_WL (R128). -/
theorem step_txBitWl {s : State} (hr : s.env.hostNow.rst = false) (h : s.seq = .txBitWl) :
    step s = .next (txBitWl s).endCycle := by
  have hb : s.seq ≠ .idle := by simp [h]
  rw [step_busy hr hb, State.runCycle, microStep, h]

/-- Settles O22: a cycle of TX_PARITY, evaluated. -/
theorem txParityLooksUpTheBit : Obligations.TxParityLooksUpTheBit :=
  fun _ hr h => step_of_seq hr h (by decide)

/-- Settles O24: TX_INHIBIT evaluated, TX_HOLD by the two cases of a delay. -/
theorem txInhibitLoadsAndHolds : Obligations.TxInhibitLoadsAndHolds := by
  intro s hr
  refine ⟨fun h => step_of_seq hr h (by decide), fun h hd => ?_, fun h hd => ?_⟩
  · obtain ⟨-, he⟩ := (delay_cases s .txStart).resolve_left fun ⟨hd', _⟩ => hd hd'
    rw [step_txHold hr h, he]
    rfl
  · obtain ⟨-, he⟩ := (delay_cases s .txStart).resolve_right fun ⟨hd', _⟩ => hd' hd
    rw [step_txHold hr h, he]
    rfl

/-- Settles O26: a cycle of each of the two states, evaluated. -/
theorem txStartBitThenClockRelease : Obligations.TxStartBitThenClockRelease :=
  fun _ hr => ⟨fun h => step_of_seq hr h (by decide), fun h => step_of_seq hr h (by decide)⟩

/-- Settles O27: two waits and a drive, and TX_BIT_WL by the level of the clock. -/
theorem txDrivesDataBits : Obligations.TxDrivesDataBits := by
  intro s hr
  refine ⟨fun h => step_wait hr h rfl (by decide) rfl, fun h => step_of_seq hr h (by decide),
    fun h => step_wait hr h rfl (by decide) rfl, fun h h7 => ?_, fun h h7 => ?_⟩
  · rw [step_txBitWl hr h]
    by_cases hl : s.level .clk = false
    · rw [txBitWl_of_clk_low hl, if_pos h7, if_pos hl]
      rfl
    · rw [txBitWl, waitPinThen_blocked _ hl, if_neg hl, ← h]
      rfl
  · rw [step_txBitWl hr h]
    by_cases hl : s.level .clk = false
    · rw [txBitWl_of_clk_low hl, if_neg h7, if_pos hl, if_pos hl]
      rfl
    · rw [txBitWl, waitPinThen_blocked _ hl, if_neg hl, if_neg hl, ← h]
      rfl

/-- Settles O28: a drive, two waits for the clock and a release. -/
theorem txParityBitThenDataRelease : Obligations.TxParityBitThenDataRelease :=
  fun _ hr => ⟨fun h => step_of_seq hr h (by decide),
    fun h => step_wait hr h rfl (by decide) rfl,
    fun h => step_wait hr h rfl (by decide) rfl,
    fun h => step_of_seq hr h (by decide)⟩

/-- Settles O29: four waits, the last of which has the next state that `OP` chooses. -/
theorem txHandshakeWaits : Obligations.TxHandshakeWaits :=
  fun _ hr => ⟨fun h => step_wait hr h rfl (by decide) rfl,
    fun h => step_wait hr h rfl (by decide) rfl,
    fun h => step_wait hr h rfl (by decide) rfl,
    fun h hop => step_wait hr h rfl (by decide) (if_pos hop),
    fun h hop => step_wait hr h rfl (by decide) (if_neg hop)⟩

end Sys2Proof.Machine
end

section
/-! Waits that are not met, and stretches in which no line is read: how the registers go on whatever the other inputs are (spec
44_line_primitives.md R174; 41_send.md R124, R134). -/

namespace Sys2Proof.Machine

/-! ### Waits -/

/-- A wait goes on as long as the engine's pull and the peripheral's do not give the awaited level (44_line_primitives.md R174). -/
theorem passes_unmet {s : State} {l : Line} {v : Bool} {ps : List Pulls} (hw : s.seq.wait = some (l, v))
    (h : ∀ p ∈ ps, resolve (s.enginePull l) (p.pull l) ≠ v) : Passes s ps s := by
  induction ps with
  | nil => exact .refl s
  | cons p ps ih =>
    obtain ⟨hp, hps⟩ := List.forall_mem_cons.mp h
    have hlevel (e : Env) (he : e.pull l = p.pull l) : (s.withEnv e).level l = resolve (s.enginePull l) (p.pull l) := by
      rw [State.level, State.enginePull, withEnv_cell, withEnv_env, he]
      rfl
    have hunmet : Passes s [p] s := .cycle (ne_idle_of_wait hw) fun e he =>
      microStep_unmet (s := s.withEnv e) hw ((hlevel e (he l)).trans_ne hp)
    exact hunmet.trans (ih hps)

/-- Settles O21: an unmet wait passes any cycles in its own registers. -/
theorem unmetWaitNeverEnds : Obligations.UnmetWaitNeverEnds := by
  intro s l v ps later hw hn hpulls hunmet
  have henv : s.withEnv ⟨s.env.host, ps ++ later, s.env.tick⟩ = s := by
    rw [← hpulls]
    rfl
  obtain ⟨-, hrun⟩ := passes_unmet hw hunmet s.env.host later s.env.tick hn
  rw [henv] at hrun
  exact ⟨hrun, by simp [State.busy, ne_idle_of_wait hw]⟩

/-- A wait on a released line, ended by a cycle that has an effect of its own (R174). -/
theorem Runs.await_then {s t : State} {l : Line} {v : Bool} (hw : s.seq.wait = some (l, v)) (hc : s.cell l = Cell.released)
    (hmet : ∀ e : Env, (s.withEnv e).level l = v → microStep (s.withEnv e) = t.withEnv e) : Runs [.await l v] s t := by
  intro ps hps
  obtain ⟨before, last, rfl, hbefore, hlast⟩ := fits_singleton.mp hps
  have hpull : s.enginePull l = false := by rw [State.enginePull, hc, released_pulls]
  have hwait : Passes s before s := passes_unmet hw fun p hp => by
    rw [hpull]
    exact hbefore p hp
  exact hwait.trans (.cycle (ne_idle_of_wait hw) fun e he => hmet e ((level_withEnv hc (he l)).trans hlast))

/-! ### Cycles in which no line is read -/

/-- In the next `n` cycles the machine is busy and goes from the registers of `s` to those of `t`, whatever the inputs but a
reset. -/
def Proceeds (n : Nat) (s t : State) : Prop :=
  ∀ e : Env, e.noReset →
    (∀ k, k < n → ∃ u, run k (s.withEnv e) = .next u ∧ u.busy = true) ∧
    run n (s.withEnv e) = .next (t.withEnv (Env.advance^[n] e))

theorem noReset_iterate_advance {e : Env} (h : e.noReset) (n : Nat) : (Env.advance^[n] e).noReset :=
  Function.Iterate.rec Env.noReset h (fun _ => noReset_advance) n

/-- Cycles with listed pulls use up as many entries of the lists. -/
theorem iterate_advance (ps later : List Pulls) (host : List HostIn) (tick : Nat) :
    Env.advance^[ps.length] ⟨host, ps ++ later, tick⟩ = ⟨host.drop ps.length, later, tick⟩ := by
  induction ps generalizing host with
  | nil => rfl
  | cons p ps ih =>
    rw [List.length_cons, Function.iterate_succ_apply, List.cons_append, advance_cons, ih, List.drop_tail]

namespace Proceeds

variable {s t u : State} {m n : Nat}

theorem refl (s : State) : Proceeds 0 s s := fun _ _ => ⟨fun _ hk => absurd hk (Nat.not_lt_zero _), rfl⟩

/-- One cycle of a busy engine that reads no line. -/
theorem cycle (hb : s.seq ≠ .idle) (h : ∀ e : Env, microStep (s.withEnv e) = t.withEnv e) : Proceeds 1 s t := by
  intro e hn
  have hstep : step (s.withEnv e) = .next (t.withEnv e.advance) := by
    rw [step_busy (s := s.withEnv e) (hostNow_rst_of_noReset hn) hb, State.runCycle, h]
    rfl
  refine ⟨fun k hk => ?_, run_succ_next 0 hstep⟩
  obtain rfl : k = 0 := by omega
  exact ⟨_, rfl, by simp [State.busy, hb]⟩

theorem trans (h : Proceeds m s t) (h' : Proceeds n t u) : Proceeds (m + n) s u := by
  intro e hn
  obtain ⟨hbusy, hrun⟩ := h e hn
  obtain ⟨hbusy', hrun'⟩ := h' _ (noReset_iterate_advance hn m)
  refine ⟨fun k hk => ?_, ?_⟩
  · by_cases hlt : k < m
    · exact hbusy k hlt
    · obtain ⟨j, rfl⟩ := Nat.exists_eq_add_of_le (Nat.le_of_not_lt hlt)
      rw [run_add _ _ hrun]
      exact hbusy' j (by omega)
  · rw [run_add _ _ hrun, hrun', ← Function.iterate_add_apply, Nat.add_comm]

/-- Where no line is read, any pulls of that length fit. -/
theorem runs (h : Proceeds n s t) : Runs [.any n] s t := by
  intro ps hps host later tick hrst
  obtain rfl : ps.length = n := fits_singleton.mp hps
  rw [← iterate_advance]
  exact h _ hrst

end Proceeds

end Sys2Proof.Machine
end

section
/-! A SEND along its plan (spec 41_send.md R120 to R137): the request to send with its hold, the driven bits, the handshake. SENDCMD
runs the same states in its first half (43_send_command.md R160). -/

namespace Sys2Proof.Machine

/-- The registers of `s` in a SEND: after TX_PARITY it writes only `SEQ`, the two driver cells, `BITCNT` and `DLY`. -/
def State.sending (s : State) (q : SeqState) (clk dat : Cell) (i : BitVec 3) (d : Nat) : State :=
  { s with seq := q, clkCell := clk, datCell := dat, bitCnt := i, dly := d }

/-- The registers of `s` with the parity bit that TX_PARITY looks up (R121). -/
def State.withParity (s : State) : State := { s with par := parity s.opa }

section Sending

variable {s : State} {clk dat : Cell} {x : Bool} {i : BitVec 3} {d : Nat}

/-! ### The request to send -/

/-- TX_INHIBIT pulls the clock and loads the counter (41_send.md R123). -/
theorem sending_inhibit : Proceeds 1 (s.sending .txInhibit ⟨.out, x⟩ dat i d)
    (s.sending .txHold ⟨.out, false⟩ dat i (s.params.inhibitCycles - 1)) :=
  .cycle (by simp [State.sending]) fun _ => rfl

/-- TX_HOLD counts `DLY` down (R124). -/
theorem sending_hold (n : Nat) : Proceeds n (s.sending .txHold clk dat i (d + n)) (s.sending .txHold clk dat i d) := by
  induction n with
  | zero => exact .refl _
  | succ n ih =>
    have hcount : Proceeds 1 (s.sending .txHold clk dat i (d + n + 1)) (s.sending .txHold clk dat i (d + n)) :=
      .cycle (by simp [State.sending]) fun _ => rfl
    rw [← Nat.add_assoc, Nat.add_comm n 1]
    exact hcount.trans ih

/-- In the `k`-th cycle after TX_INHIBIT the hold has `INHIBIT_CYCLES - k` to count (R123, R124). -/
theorem sending_inhibit_hold {k : Nat} (h1 : 1 ≤ k) (hk : k ≤ s.params.inhibitCycles) :
    Proceeds k (s.sending .txInhibit ⟨.out, x⟩ dat i d)
      (s.sending .txHold ⟨.out, false⟩ dat i (s.params.inhibitCycles - k)) := by
  have hload : s.params.inhibitCycles - 1 = s.params.inhibitCycles - k + (k - 1) := by omega
  have hinhibit := sending_inhibit (s := s) (x := x) (dat := dat) (i := i) (d := d)
  rw [hload] at hinhibit
  simpa [Nat.add_sub_cancel' h1] using hinhibit.trans (sending_hold (k - 1))

/-- When `DLY` is 0 the start bit is to be driven (R124). -/
theorem sending_hold_end : Proceeds 1 (s.sending .txHold clk dat i 0) (s.sending .txStart clk dat i 0) :=
  .cycle (by simp [State.sending]) fun _ => rfl

/-- TX_START drives the start bit (R125). -/
theorem sending_start : Proceeds 1 (s.sending .txStart clk ⟨.out, x⟩ i d) (s.sending .txRelClk clk ⟨.out, false⟩ i d) :=
  .cycle (by simp [State.sending]) fun _ => rfl

/-- TX_REL_CLK releases the clock (R126). -/
theorem sending_release_clk : Proceeds 1 (s.sending .txRelClk clk dat i d) (s.sending .txWaitDev Cell.released dat i d) :=
  .cycle (by simp [State.sending]) fun _ => rfl

/-- From TX_INHIBIT to TX_START (R123, R124). -/
theorem sending_inhibit_start (hN : 1 ≤ s.params.inhibitCycles) :
    Proceeds (s.params.inhibitCycles + 1) (s.sending .txInhibit ⟨.out, x⟩ dat i d)
      (s.sending .txStart ⟨.out, false⟩ dat i 0) := by
  have hhold := sending_inhibit_hold (s := s) (x := x) (dat := dat) (i := i) (d := d) hN le_rfl
  rw [Nat.sub_self] at hhold
  exact hhold.trans sending_hold_end

/-- Settles O25: the hold, and the three cycles after it. -/
theorem inhibitHoldTiming : Obligations.InhibitHoldTiming := by
  intro s hq hclk hdat hn hl
  have hN := inhibitCycles_pos_of_lawful hl
  have hs : (s.sending .txInhibit ⟨.out, true⟩ ⟨.out, true⟩ s.bitCnt s.dly).withEnv s.env = s := by
    calc _ = (s.sending s.seq s.clkCell s.datCell s.bitCnt s.dly).withEnv s.env := by rw [hq, hclk, hdat]
      _ = s := rfl
  have hreach {k : Nat} {t : State} (h : Proceeds k (s.sending .txInhibit ⟨.out, true⟩ ⟨.out, true⟩ s.bitCnt s.dly) t) :
      run k s = .next (t.withEnv (Env.advance^[k] s.env)) := by
    obtain ⟨-, hrun⟩ := h s.env hn
    rwa [hs] at hrun
  have hstart := sending_inhibit_start (s := s) (x := true) (dat := ⟨.out, true⟩) (i := s.bitCnt) (d := s.dly) hN
  have hrel := hstart.trans sending_start
  exact ⟨fun k h1 hk => ⟨_, hreach (sending_inhibit_hold h1 hk), rfl, rfl, rfl, rfl⟩, ⟨_, hreach hstart, rfl, rfl, rfl⟩,
    ⟨_, hreach hrel, rfl, rfl, rfl⟩, ⟨_, hreach (hrel.trans sending_release_clk), rfl, rfl, rfl⟩⟩

/-- From TX_PARITY to TX_WAIT_DEV: six states and the hold (R121 to R126). -/
theorem sending_request (hrel : s.released) (hN : 1 ≤ s.params.inhibitCycles) :
    Proceeds (6 + s.params.inhibitCycles) (s.goto .txParity)
      (s.withParity.sending .txWaitDev Cell.released ⟨.out, false⟩ 0 0) := by
  obtain ⟨hclk, hdat⟩ := hrel
  have hparity : Proceeds 1 (s.goto .txParity) (s.withParity.sending .txOutClk s.clkCell s.datCell 0 s.dly) :=
    .cycle (by simp) fun _ => rfl
  rw [hclk, hdat] at hparity
  have houtClk : Proceeds 1 (s.withParity.sending .txOutClk Cell.released Cell.released 0 s.dly)
      (s.withParity.sending .txOutDat ⟨.out, true⟩ Cell.released 0 s.dly) := .cycle (by simp [State.sending]) fun _ => rfl
  have houtDat : Proceeds 1 (s.withParity.sending .txOutDat ⟨.out, true⟩ Cell.released 0 s.dly)
      (s.withParity.sending .txInhibit ⟨.out, true⟩ ⟨.out, true⟩ 0 s.dly) := .cycle (by simp [State.sending]) fun _ => rfl
  have hstart := ((hparity.trans houtClk).trans houtDat).trans (sending_inhibit_start (s := s.withParity) hN)
  have hcycles : 6 + s.params.inhibitCycles = 1 + 1 + 1 + (s.withParity.params.inhibitCycles + 1) + 1 + 1 := by
    simp only [State.withParity]
    omega
  rw [hcycles]
  exact (hstart.trans sending_start).trans sending_release_clk

/-! ### The driven bits -/

/-- A wait of a SEND for the clock that only moves `SEQ`: it has released the clock (41_send.md R134). -/
theorem sending_await_clk {q r : SeqState} {v : Bool} (hw : q.wait = some (.clk, v)) (hq : q ≠ .txBitWl)
    (hnext : (s.goto q).nextStates = [r]) :
    Runs [.await .clk v] (s.sending q Cell.released dat i d) (s.sending r Cell.released dat i d) :=
  Runs.await (s := s.sending q Cell.released dat i d) hw hq hnext rfl

/-- TX_BIT_WL counts the bit, or after bit 7 goes on to the parity bit (R128). -/
theorem sending_count {k : Nat} (hk : k < 8) :
    Runs [.await .clk false] (s.sending .txBitWl Cell.released dat (BitVec.ofNat 3 k) d)
      (if k = 7 then s.sending .txParDrive Cell.released dat 7 d
        else s.sending .txBitDrive Cell.released dat (BitVec.ofNat 3 (k + 1)) d) := by
  refine Runs.await_then rfl rfl fun e hl => ?_
  refine (txBitWl_of_clk_low hl).trans ?_
  by_cases h7 : k = 7
  · subst h7
    rfl
  · rw [if_neg h7, BitVec.ofNat_add]
    exact if_neg (mt (ofNat_eq_seven_iff hk).mp h7)

/-- A driven bit: one cycle that writes the data latch, then a clock pulse (R128, R129). -/
def bitPlan : List Stretch := .any 1 :: pulse

/-- A data bit is on the line for a clock pulse (R128). -/
theorem sending_bit {k : Nat} (hk : k < 8) :
    Runs bitPlan (s.sending .txBitDrive Cell.released ⟨.out, x⟩ (BitVec.ofNat 3 k) d)
      (if k = 7 then s.sending .txParDrive Cell.released ⟨.out, selectBit s.opa (BitVec.ofNat 3 k)⟩ 7 d
        else s.sending .txBitDrive Cell.released ⟨.out, selectBit s.opa (BitVec.ofNat 3 k)⟩ (BitVec.ofNat 3 (k + 1)) d) := by
  have hdrive : Runs [.any 1] (s.sending .txBitDrive Cell.released ⟨.out, x⟩ (BitVec.ofNat 3 k) d)
      (s.sending .txBitWh Cell.released ⟨.out, selectBit s.opa (BitVec.ofNat 3 k)⟩ (BitVec.ofNat 3 k) d) :=
    .any_one (by simp [State.sending]) fun _ => rfl
  exact (hdrive.append (sending_await_clk rfl (by decide) rfl)).append (sending_count hk)

/-- The data bits from the `k`-th to the last (R128). -/
theorem sending_bits {m k : Nat} (hk : k + m = 7) :
    Runs (List.replicate (m + 1) bitPlan).flatten (s.sending .txBitDrive Cell.released ⟨.out, x⟩ (BitVec.ofNat 3 k) d)
      (s.sending .txParDrive Cell.released ⟨.out, selectBit s.opa 7⟩ 7 d) := by
  induction m generalizing k x with
  | zero =>
    obtain rfl : k = 7 := hk
    exact sending_bit (by decide)
  | succ m ih =>
    have hbit := sending_bit (s := s) (x := x) (d := d) (k := k) (by omega)
    rw [if_neg (by omega)] at hbit
    rw [List.replicate_succ, List.flatten_cons]
    exact hbit.append (ih (by omega))

/-- The parity bit, the ninth that is driven (R129). -/
theorem sending_parity :
    Runs bitPlan (s.sending .txParDrive Cell.released ⟨.out, x⟩ i d)
      (s.sending .txRelDat Cell.released ⟨.out, s.par⟩ i d) := by
  have hdrive : Runs [.any 1] (s.sending .txParDrive Cell.released ⟨.out, x⟩ i d)
      (s.sending .txParWh Cell.released ⟨.out, s.par⟩ i d) := .any_one (by simp [State.sending]) fun _ => rfl
  exact (hdrive.append (sending_await_clk rfl (by decide) rfl)).append (sending_await_clk rfl (by decide) rfl)

/-! ### The whole command -/

/-- The release of the data line and the four waits of the handshake, after which `OP` chooses (R130 to R132). -/
theorem sending_handshake :
    Runs [.any 1, .await .dat false, .await .clk false, .await .dat true, .await .clk true]
      (s.sending .txRelDat Cell.released dat i d)
      (s.sending (if s.op == 3 then .rxWaitStart else .idle) Cell.released Cell.released i d) := by
  have hrelease : Runs [.any 1] (s.sending .txRelDat Cell.released dat i d)
      (s.sending .txAckDat Cell.released Cell.released i d) := .any_one (by simp [State.sending]) fun _ => rfl
  have hackDat : Runs [.await .dat false] (s.sending .txAckDat Cell.released Cell.released i d)
      (s.sending .txAckClk Cell.released Cell.released i d) := .await rfl (by simp [State.sending]) rfl rfl
  have hidleDat : Runs [.await .dat true] (s.sending .txIdleDat Cell.released Cell.released i d)
      (s.sending .txIdleClk Cell.released Cell.released i d) := .await rfl (by simp [State.sending]) rfl rfl
  have hidleClk : Runs [.await .clk true] (s.sending .txIdleClk Cell.released Cell.released i d)
      (s.sending (if s.op == 3 then .rxWaitStart else .idle) Cell.released Cell.released i d) := by
    refine sending_await_clk rfl (by decide) ?_
    by_cases h3 : s.op = 3#2 <;> simp [State.nextStates, h3]
  exact (((hrelease.append hackDat).append (sending_await_clk rfl (by decide) rfl)).append hidleDat).append hidleClk

/-- The plan of a SEND: the request, the wait for the peripheral, eight data bits and the parity bit, the handshake (R137). -/
theorem sendPlan_eq (n : Nat) :
    sendPlan n = [.any (6 + n)] ++ [.await .clk false] ++ (List.replicate (7 + 1) bitPlan).flatten ++ bitPlan ++
      [.any 1, .await .dat false, .await .clk false, .await .dat true, .await .clk true] := rfl

/-- A SEND, or the first half of a SENDCMD, from TX_PARITY to the end of the handshake (R120, R133, R137). -/
theorem sending_frame (hrel : s.released) (hN : 1 ≤ s.params.inhibitCycles) :
    Runs (sendPlan s.params.inhibitCycles) (s.goto .txParity)
      (s.withParity.sending (if s.op == 3 then .rxWaitStart else .idle) Cell.released Cell.released 7 0) := by
  have hdev : Runs [.await .clk false] (s.withParity.sending .txWaitDev Cell.released ⟨.out, false⟩ 0 0)
      (s.withParity.sending .txBitDrive Cell.released ⟨.out, false⟩ 0 0) := sending_await_clk rfl (by decide) rfl
  rw [sendPlan_eq]
  exact ((((sending_request hrel hN).runs.append hdev).append (sending_bits (k := 0) rfl)).append sending_parity).append
    sending_handshake

end Sending

/-- Settles O47: the acceptance, and the SEND along its plan. -/
theorem sendRunsToItsEnd : Obligations.SendRunsToItsEnd := by
  intro s v b p script later hi hrel href hn hpulls hfits
  have henv : s.env = ⟨s.env.host, p :: (script ++ later), s.env.tick⟩ := by rw [← hpulls]
  have hstart : (s.accept 1 v b .txParity).endCycle =
      ((s.accept 1 v b .txParity).goto .txParity).withEnv ⟨s.env.host.tail, script ++ later, s.env.tick⟩ := by
    rw [State.endCycle, accept_env, henv]
    rfl
  obtain ⟨-, hlawful⟩ := (sendingRefusal_none_iff s).mp href
  obtain ⟨hbusy, hrun⟩ := sending_frame (s := s.accept 1 v b .txParity) hrel (inhibitCycles_pos_of_lawful hlawful) script hfits
    s.env.host.tail later s.env.tick fun x hx => hn x (List.mem_of_mem_tail hx)
  refine ⟨_, present_of_eq_none hi href _, ?_, ?_⟩
  · rw [hstart]
    exact hbusy
  · obtain ⟨hclk, hdat⟩ := hrel
    rw [hstart, hrun, List.drop_tail]
    simp [State.sending, State.withParity, State.withEnv, State.accept, hi, hclk, hdat]

end Sys2Proof.Machine
end

section
/-! The path of the sequencer (spec 44_line_primitives.md R178): of the registers, only `SEQ`, `OP`, `BITCNT` and
`DLY` decide where `SEQ` goes, beside the levels of the lines and the port. -/

namespace Sys2Proof.Machine

/-! ### Where a cycle takes `SEQ` -/

theorem delay_seq (s : State) (q : SeqState) : (s.delay q).seq = if s.dly = 0 then q else s.seq := by
  obtain ⟨h, he⟩ | ⟨h, he⟩ := delay_cases s q <;> simp [he, h]

theorem txBitWl_seq (s : State) :
    (txBitWl s).seq = if s.level .clk = false then (if s.bitCnt = 7 then .txParDrive else .txBitDrive) else s.seq := by
  by_cases hl : s.level .clk = false
  · rw [txBitWl_of_clk_low hl, if_pos hl, apply_ite State.seq]
    rfl
  · rw [txBitWl, waitPinThen_blocked _ hl, if_neg hl]

theorem rxBitSample_seq (s : State) : (rxBitSample s).seq = if s.bitCnt = 7 then .rxParWh else .rxBitWh := by
  obtain ⟨h7, he⟩ | ⟨h7, he⟩ := rxBitSample_cases s
  · rw [he, if_pos h7]
  · rw [he, if_neg h7]

/-- Two states with the same control: what R178 lets a successor depend on, which is `SEQ`, `OP`, `BITCNT`, `DLY`, the lines
and the port, and the model's reasons to refuse a command (40_configure.md R112, R113). -/
structure SameControl (s t : State) : Prop where
  seq : t.seq = s.seq
  op : t.op = s.op
  bitCnt : t.bitCnt = s.bitCnt
  dly : t.dly = s.dly
  level : ∀ l, t.level l = s.level l
  hostNow : t.env.hostNow = s.env.hostNow
  bindingRefusal : t.bindingRefusal = s.bindingRefusal
  sendingRefusal : t.sendingRefusal = s.sendingRefusal

namespace SameControl

variable {s t u : State}

theorem waitPin_seq (h : SameControl s t) (l : Line) (v : Bool) (q : SeqState) :
    (t.waitPin l v q).seq = (s.waitPin l v q).seq := by
  simp only [waitPin_eq_goto, goto_seq, h.seq, h.level]

/-- A cycle takes both to the same sequencer state. -/
theorem microStep_seq (h : SameControl s t) : (microStep t).seq = (microStep s).seq := by
  unfold microStep
  rw [h.seq]
  cases s.seq with
  | idle => exact h.seq
  | txWaitDev | txBitWh | txParWh | txParWl | txAckDat | txAckClk | txIdleDat => exact h.waitPin_seq ..
  | rxWaitStart | rxBitWh | rxBitWl | rxParWh | rxParWl | rxStopWh | rxStopWl | rxEndWh => exact h.waitPin_seq ..
  | txIdleClk =>
    simp only [txIdleClk, h.op]
    exact h.waitPin_seq ..
  | txBitWl => simp only [txBitWl_seq, h.seq, h.bitCnt, h.level]
  | txHold => simp only [txHold, delay_seq, h.seq, h.dly]
  | rxBitSample => simp only [rxBitSample_seq, h.bitCnt]
  | rxDone => simp only [rxDone, h.op]
  | rxStart | rxParSample | rxStopSample | ackCheck => simp [rxStart, rxParSample, rxStopSample, ackCheck]
  | _ => rfl

/-- A command that an idle engine accepts in the first is accepted in the second, with the same first state (10_state.md R37). -/
theorem exec_seq (h : SameControl s t) {i : Instr} (hi : s.seq = .idle) (hexec : exec i s = .next u) :
    ∃ w, exec i t = .next w ∧ w.seq = u.seq := by
  have hi' : t.seq = .idle := h.seq.trans hi
  obtain ⟨_, _, rfl, rfl⟩ | ⟨_, _, rfl, href, rfl⟩ | ⟨_, _, rfl, href, rfl⟩ | ⟨_, _, rfl, href, rfl⟩ := exec_idle_cases hi hexec
  · exact ⟨_, present_accepted hi' _, rfl⟩
  · exact ⟨_, present_of_eq_none hi' (h.sendingRefusal.trans href) _, rfl⟩
  · exact ⟨_, present_of_eq_none hi' (h.bindingRefusal.trans href) _, rfl⟩
  · exact ⟨_, present_of_eq_none hi' (h.sendingRefusal.trans href) _, rfl⟩

/-- A step takes both to the same sequencer state. -/
theorem step_seq (h : SameControl s t) (hs : step s = .next u) : ∃ w, step t = .next w ∧ w.seq = u.seq := by
  obtain ⟨hr, rfl⟩ | ⟨hr, hv, hi, hexec⟩ | ⟨hr, hv, rfl⟩ := step_cases hs <;> rw [← h.hostNow] at hr
  · exact ⟨_, step_reset hr, rfl⟩
  · rw [← h.hostNow] at hv hexec
    rw [step_presented hr hv]
    exact h.exec_seq hi hexec
  · rw [← h.hostNow, ← h.seq] at hv
    refine ⟨t.runCycle, ?_, h.microStep_seq⟩
    by_cases hi : t.seq = .idle
    · exact step_quiet hr (hv hi)
    · exact step_busy hr hi

end SameControl

/-- Settles O39: the data registers and the flags are no part of the control. -/
theorem successorsIgnoreData : Obligations.SuccessorsIgnoreData := by
  intro s t opa opb acc rxData par status h
  refine SameControl.step_seq (s := s) ⟨rfl, rfl, rfl, rfl, fun l => ?_, rfl, rfl, rfl⟩ h
  cases l <;> rfl

end Sys2Proof.Machine
end

section
/-! The RECV micro-program cycle by cycle, and a RECV of clocked cells (spec 42_receive.md R141 to R147; 70_reset_and_hazards.md
R227). -/

namespace Sys2Proof.Machine

/-! ### One cycle of a given state -/

/-- A cycle of a given state that ends in a check: the flag of the anomaly is set iff the check fails (60_exceptions.md R191). -/
theorem step_check {s t : State} {q : SeqState} {c : Bool} {p : Prop} [Decidable p] {x : Anomaly}
    (hr : s.env.hostNow.rst = false) (h : s.seq = q) (hb : q ≠ .idle) (hcheck : microStep (s.goto q) = t.flagIf c x)
    (hc : c = true ↔ p) :
    step s = .next { t with status := if p then setFlag x t.status else t.status, env := t.env.advance } := by
  rw [step_of_seq hr h hb, State.runCycle, hcheck]
  by_cases hp : p
  · rw [hc.mpr hp, if_pos hp]
    rfl
  · rw [Bool.eq_false_iff.mpr (mt hc.mp hp), if_neg hp]
    rfl

/-- A cycle of RX_START: its check fails iff the start bit is 1 (42_receive.md R142). -/
theorem step_rxStart {s : State} (hr : s.env.hostNow.rst = false) (h : s.seq = .rxStart) :
    step s = .next { s with acc := 0x00, bitCnt := 0, status := if s.level .dat ≠ false then setFlag .fe s.status else s.status,
                            seq := .rxBitWh, env := s.env.advance } :=
  step_check (t := { s with acc := 0x00, bitCnt := 0, seq := .rxBitWh }) hr h (by decide) rfl bne_iff_ne

/-- A cycle of RX_BIT_SAMPLE (R143). -/
theorem step_rxBitSample {s : State} (hr : s.env.hostNow.rst = false) (h : s.seq = .rxBitSample) :
    step s = .next (rxBitSample s).endCycle := by
  have hb : s.seq ≠ .idle := by simp [h]
  rw [step_busy hr hb, State.runCycle, microStep, h]

/-- A cycle of RX_DONE (42_receive.md R147). -/
theorem step_rxDone {s : State} (hr : s.env.hostNow.rst = false) (h : s.seq = .rxDone) :
    step s = .next { s with rxData := s.acc, seq := if s.op == 3 then .ackCheck else .idle, env := s.env.advance } :=
  step_of_seq hr h (by decide)

/-- Settles O30: a wait, and the check of the start bit. -/
theorem rxSamplesTheStartBit : Obligations.RxSamplesTheStartBit := by
  intro s hr
  refine ⟨fun h => step_wait hr h rfl (by decide) rfl, fun h hl => ?_, fun h hl => ?_⟩
  · rw [step_rxStart hr h, if_neg (not_not.mpr hl)]
  · rw [step_rxStart hr h, if_pos (Bool.ne_false_iff.mpr hl)]
    rfl

/-- Settles O31: a clock pulse, and the two cases of a sample. -/
theorem rxSamplesDataBits : Obligations.RxSamplesDataBits := by
  intro s hr
  refine ⟨fun h => step_wait hr h rfl (by decide) rfl, fun h => step_wait hr h rfl (by decide) rfl, fun h h7 => ?_,
    fun h h7 => ?_⟩
  · obtain ⟨-, he⟩ := (rxBitSample_cases s).resolve_left fun ⟨h7', _⟩ => h7 h7'
    rw [step_rxBitSample hr h, he]
    rfl
  · obtain ⟨-, he⟩ := (rxBitSample_cases s).resolve_right fun ⟨h7', _⟩ => h7' h7
    rw [step_rxBitSample hr h, he]
    rfl

/-- Settles O32: four waits for the clock, and the checks of the parity bit and the stop bit. -/
theorem rxChecksParityAndStop : Obligations.RxChecksParityAndStop :=
  fun s hr => ⟨fun h => step_wait hr h rfl (by decide) rfl,
    fun h => step_wait hr h rfl (by decide) rfl,
    fun h => step_check (t := s.goto .rxStopWh) hr h (by decide) rfl bne_iff_ne,
    fun h => step_wait hr h rfl (by decide) rfl,
    fun h => step_wait hr h rfl (by decide) rfl,
    fun h => step_check (t := s.goto .rxEndWh) hr h (by decide) rfl bne_iff_ne⟩

/-- Settles O33: a wait, and the publication with the successor that `OP` chooses. -/
theorem rxPublishesTheByte : Obligations.RxPublishesTheByte := by
  intro s hr
  refine ⟨fun h => step_wait hr h rfl (by decide) rfl, fun h hop => ?_, fun h hop => ?_⟩
  · rw [step_rxDone hr h, if_pos (beq_iff_eq.mpr hop)]
  · rw [step_rxDone hr h, if_neg (mt beq_iff_eq.mp hop)]

/-! ### Clocked cells -/

/-- Settles O50: the clocked cells and the two cycles after them fit the plan of a RECV. -/
theorem recvTakesClockedCells : Obligations.RecvTakesClockedCells := by
  intro s a b v start par stop p q q' frame later hi hrel href hn hpulls hq hcells
  obtain ⟨t, ht, -, hrun⟩ := recvRunsToItsEnd s a b v start par stop p (frame ++ [q, q']) later hi hrel href hn hpulls
    (fits_recvPlan_of_clockedCells hcells hq)
  rw [List.length_append] at hrun
  exact ⟨t, ht, hrun⟩

end Sys2Proof.Machine
end

section
/-! A SENDCMD along its plan (spec 43_send_command.md R160 to R162): the states of a SEND, those of a RECV, and ACK_CHECK. -/

namespace Sys2Proof.Machine

/-- Settles O34: a cycle of a state that ends in a check, for the comparison with `ACK`. -/
theorem ackCheckComparesTheByte : Obligations.AckCheckComparesTheByte :=
  fun s hr h => step_check (t := s.goto .idle) hr h (by decide) rfl bne_iff_ne

/-- A run along a plan that begins after the present cycle, whose own inputs are used up (10_state.md R46). -/
theorem Runs.after_endCycle {s t : State} {plan : List Stretch} {p : Pulls} {script later : List Pulls} (h : Runs plan s t)
    (hn : s.env.noReset) (hpulls : s.env.pulls = p :: (script ++ later)) (hfits : Fits plan script) :
    (∀ k, k < script.length → ∃ u, run k s.endCycle = .next u ∧ u.busy = true) ∧
    run script.length s.endCycle = .next (t.withEnv ⟨s.env.host.drop (script.length + 1), later, s.env.tick⟩) := by
  have hstart : s.endCycle = s.withEnv ⟨s.env.host.tail, script ++ later, s.env.tick⟩ := by
    have henv : s.env = ⟨s.env.host, p :: (script ++ later), s.env.tick⟩ := by rw [← hpulls]
    rw [State.endCycle, henv]
    rfl
  rw [hstart, ← List.drop_tail]
  exact h script hfits s.env.host.tail later s.env.tick fun x hx => hn x (List.mem_of_mem_tail hx)

/-- ACK_CHECK is one cycle that reads no line: `AM` is set iff the received byte is not `ACK` (R161). -/
theorem runs_ackCheck {s : State} (hs : s.seq = .ackCheck) :
    Runs [.any 1] s { s.goto .idle with status := flagged (s.rxData != s.params.ack) .am s.status } := by
  refine .any_one (by simp [hs]) fun e => ?_
  rw [microStep, withEnv_seq, hs]
  exact flagIf_receiving s .idle s.acc s.bitCnt s.status e (s.rxData != s.params.ack) .am

/-- The registers of `s` when the first half of a SENDCMD is over and the second begins (R160). -/
def State.afterHandshake (s : State) : State := s.withParity.sending .rxWaitStart Cell.released Cell.released 7 0

/-- With `OP` = 3 the handshake leads to the reception (R160). -/
theorem sendcmd_send {s : State} (hop : s.op = 3) (hrel : s.released) (hN : 1 ≤ s.params.inhibitCycles) :
    Runs (sendPlan s.params.inhibitCycles) (s.goto .txParity) s.afterHandshake := by
  have hsend := sending_frame hrel hN
  rwa [if_pos (beq_iff_eq.mpr hop)] at hsend

/-- The registers of `s` in the second half of a SENDCMD, when the response `r` is published (R160). -/
def State.responded (s : State) (q : SeqState) (r : Byte) (status : BitVec 3) : State :=
  { s.afterHandshake.receiving q r 7 status with rxData := r }

/-- With `OP` = 3 the reception leads to the check (R160). -/
theorem sendcmd_recv {s : State} (hop : s.op = 3) (hstatus : s.status = 0) (start : Bool) (r : Byte) (par stop : Bool) :
    Runs (recvPlan start r par stop) s.afterHandshake (s.responded .ackCheck r (receptionStatus start r par stop)) := by
  have hop' : (s.afterHandshake.op == 3) = true := beq_iff_eq.mpr hop
  have hrecv := receiving_frame (s := s.afterHandshake) (acc := s.acc) (i := 7) ⟨rfl, rfl⟩ start r par stop
  rwa [← hstatus, if_pos hop'] at hrecv

/-- A SENDCMD from TX_PARITY to ACK_CHECK (R160, R161). -/
theorem sendcmd_frame {s : State} (hop : s.op = 3) (hstatus : s.status = 0) (hrel : s.released)
    (hN : 1 ≤ s.params.inhibitCycles) (start : Bool) (r : Byte) (par stop : Bool) :
    Runs (sendcmdPlan s.params.inhibitCycles start r par stop) (s.goto .txParity)
      (s.responded .idle r (flagged (r != s.params.ack) .am (receptionStatus start r par stop))) :=
  ((sendcmd_send hop hrel hN).append (sendcmd_recv hop hstatus start r par stop)).append (runs_ackCheck rfl)

/-- `AM` joins the flags of the reception iff the response is not `ACK` (R161, R162). -/
theorem flagged_am (r ack : Byte) (status : BitVec 3) :
    flagged (r != ack) .am status = status ||| (if r ≠ ack then 0b100 else 0b000) := by
  by_cases h : r = ack
  · simp [flagged, h]
  · simp [flagged, h, setFlag, Anomaly.bit]

/-- Settles O52: the acceptance, and the SENDCMD along its plan. -/
theorem sendcmdRunsToItsEnd : Obligations.SendcmdRunsToItsEnd := by
  intro s c b r start par stop p script later hi hrel href hn hpulls hfits
  obtain ⟨-, hlawful⟩ := (sendingRefusal_none_iff s).mp href
  have hframe := sendcmd_frame (s := s.accept 3 c b .txParity) rfl rfl hrel (inhibitCycles_pos_of_lawful hlawful)
    start r par stop
  obtain ⟨hbusy, hrun⟩ := hframe.after_endCycle hn hpulls hfits
  refine ⟨_, present_of_eq_none hi href _, hbusy, ?_⟩
  obtain ⟨hclk, hdat⟩ := hrel
  rw [← flagged_am, hi, hclk, hdat]
  exact hrun

end Sys2Proof.Machine
end

section
/-! Every wait state by one argument: unmet it does nothing, met it goes on (spec 44_line_primitives.md R174, R175). -/

namespace Sys2Proof.Machine

/-- `SEQ` moves to a different state whenever it moves by the tables (41_send.md R137, 42_receive.md R151). -/
theorem ne_of_mem_successors {q r : SeqState} (h : r ∈ q.successors) : r ≠ q := by
  rintro rfl
  cases r <;> simp [SeqState.successors] at h

/-- A wait state whose line has the awaited level moves `SEQ` to a successor, and writes no other register but `BITCNT` in TX_BIT_WL
(44_line_primitives.md R174; 41_send.md R128). -/
theorem microStep_met {s : State} {l : Line} {v : Bool} (hw : s.seq.wait = some (l, v)) (h : s.level l = v) :
    ∃ q n, q ∈ s.seq.successors ∧ (s.seq ≠ .txBitWl → n = s.bitCnt) ∧ microStep s = { s with seq := q, bitCnt := n } := by
  by_cases hq : s.seq = .txBitWl
  · rw [hq] at hw ⊢
    cases hw
    have he : microStep s = txBitWl s := by rw [microStep, hq]
    rw [txBitWl_of_clk_low h] at he
    by_cases h7 : s.bitCnt = 7
    · exact ⟨.txParDrive, s.bitCnt, by decide, fun _ => rfl, he.trans (if_pos h7)⟩
    · exact ⟨.txBitDrive, s.bitCnt + 1, by decide, fun hne => absurd rfl hne, he.trans (if_neg h7)⟩
  · obtain ⟨q, hnext, he⟩ := microStep_wait hw hq
    exact ⟨q, s.bitCnt, nextStates_subset_successors s hnext, fun _ => rfl, he.trans (waitPinThen_done _ h)⟩

/-- Settles O20: a busy engine runs the cycle of its wait state, unmet or met. -/
theorem waitStatesPollTheirLine : Obligations.WaitStatesPollTheirLine := by
  intro s l v hr hw
  rw [step_busy hr (ne_idle_of_wait hw), State.runCycle]
  refine ⟨fun hunmet => ?_, fun hmet => ?_⟩
  · rw [microStep_unmet hw hunmet]
    rfl
  · obtain ⟨q, n, hq, hn, he⟩ := microStep_met hw hmet
    refine ⟨q, n, hq, ne_of_mem_successors hq, hn, ?_⟩
    rw [he]
    rfl

end Sys2Proof.Machine
end

section
/-! A flag is set by the failed check of its own anomaly and by nothing else (spec 60_exceptions.md R190, R192 to R194). -/

namespace Sys2Proof.Machine

/-- An idle engine checks nothing. -/
theorem detects_of_idle {s : State} (hi : s.seq = .idle) (x : Anomaly) : s.detects x = false := by
  cases x <;> simp [State.detects, hi]

/-- A flag that is clear before a step without reset is set after it iff the step's cycle finds the flag's anomaly: an acceptance
clears all flags, and makes no check (10_state.md R37; 60_exceptions.md R190). -/
theorem hasFlag_step {s t : State} (hr : s.env.hostNow.rst = false) (h : step s = .next t) {x : Anomaly}
    (hx : hasFlag x s.status = false) : hasFlag x t.status = s.detects x := by
  obtain ⟨hr', -⟩ | ⟨-, -, hi, hexec⟩ | ⟨-, -, rfl⟩ := step_cases h
  · simp [hr] at hr'
  · rw [detects_of_idle hi]
    obtain ⟨_, _, -, rfl⟩ | ⟨_, _, -, -, rfl⟩ | ⟨_, _, -, -, rfl⟩ | ⟨_, _, -, -, rfl⟩ :=
      exec_idle_cases hi hexec <;> exact hasFlag_zero x
  · change hasFlag x (microStep s).status = s.detects x
    rw [hasFlag_microStep, hx, Bool.false_or]

/-- A frame error: the start bit is found high, or the stop bit low (60_exceptions.md R192). -/
theorem detects_fe_iff (s : State) : s.detects .fe = true ↔
    (s.seq = .rxStart ∧ s.level .dat = true) ∨ (s.seq = .rxStopSample ∧ s.level .dat = false) := by
  simp [State.detects]

/-- A parity error: the parity bit is not that of the byte received (60_exceptions.md R193). -/
theorem detects_pe_iff (s : State) : s.detects .pe = true ↔ s.seq = .rxParSample ∧ s.level .dat ≠ parity s.acc := by
  simp [State.detects]

/-- An acknowledge mismatch: the response is not `ACK` (60_exceptions.md R194). -/
theorem detects_am_iff (s : State) : s.detects .am = true ↔ s.seq = .ackCheck ∧ s.rxData ≠ s.params.ack := by
  simp [State.detects]

/-- Settles O38: a clear flag after the step is what the cycle detects, read for each of the three anomalies. -/
theorem flagsComeFromTheirChecks : Obligations.FlagsComeFromTheirChecks := by
  intro s t hr h
  refine ⟨fun hfe => ?_, fun hpe => ?_, fun ham => ?_⟩
  · rw [hasFlag_step hr h hfe, detects_fe_iff]
  · rw [hasFlag_step hr h hpe, detects_pe_iff]
  · rw [hasFlag_step hr h ham, detects_am_iff]

end Sys2Proof.Machine
end

section
/-! The least number of cycles that a command can take (spec 70_reset_and_hazards.md R236): a count of the cycles still to come,
which a cycle lowers by one at most. -/

namespace Sys2Proof.Machine

/-! ### The cycles still to come -/

/-- The data bits that come after bit `i` (10_state.md R33). -/
def bitsLeft (i : BitVec 3) : Nat := 7 - i.toNat

@[simp] theorem bitsLeft_zero : bitsLeft 0#3 = 7 := rfl
@[simp] theorem bitsLeft_seven : bitsLeft 7#3 = 0 := rfl

theorem bitsLeft_eq_add_one : ∀ i : BitVec 3, i ≠ 7#3 → bitsLeft i = bitsLeft (i + 1#3) + 1 := by decide

/-- The cycle of ACK_CHECK, which of the commands that receive only SENDCMD has (43_send_command.md R160). -/
def checkCycles (op : BitVec 2) : Nat := if op = 3 then 1 else 0

/-- The cycles of the receive half and of the check, which of the commands that send only SENDCMD has (R160). -/
def replyCycles (op : BitVec 2) : Nat := if op = 3 then 34 + checkCycles op else 0

/-- The cycles before the engine can be idle, this one included, if every wait is met in its first cycle (41_send.md R137;
42_receive.md R151). A data bit is three cycles in either direction, and the hold is counted by `DLY` once that is loaded. -/
def State.cyclesLeft (s : State) : Nat :=
  match s.seq with
  | .idle => 0
  | .cfgStore => 1
  | .txParity => s.params.inhibitCycles + 39 + replyCycles s.op
  | .txOutClk => s.params.inhibitCycles + 3 * bitsLeft s.bitCnt + 17 + replyCycles s.op
  | .txOutDat => s.params.inhibitCycles + 3 * bitsLeft s.bitCnt + 16 + replyCycles s.op
  | .txInhibit => s.params.inhibitCycles + 3 * bitsLeft s.bitCnt + 15 + replyCycles s.op
  | .txHold => s.dly + 3 * bitsLeft s.bitCnt + 15 + replyCycles s.op
  | .txStart => 3 * bitsLeft s.bitCnt + 14 + replyCycles s.op
  | .txRelClk => 3 * bitsLeft s.bitCnt + 13 + replyCycles s.op
  | .txWaitDev => 3 * bitsLeft s.bitCnt + 12 + replyCycles s.op
  | .txBitDrive => 3 * bitsLeft s.bitCnt + 11 + replyCycles s.op
  | .txBitWh => 3 * bitsLeft s.bitCnt + 10 + replyCycles s.op
  | .txBitWl => 3 * bitsLeft s.bitCnt + 9 + replyCycles s.op
  | .txParDrive => 8 + replyCycles s.op
  | .txParWh => 7 + replyCycles s.op
  | .txParWl => 6 + replyCycles s.op
  | .txRelDat => 5 + replyCycles s.op
  | .txAckDat => 4 + replyCycles s.op
  | .txAckClk => 3 + replyCycles s.op
  | .txIdleDat => 2 + replyCycles s.op
  | .txIdleClk => 1 + replyCycles s.op
  | .rxWaitStart => 34 + checkCycles s.op
  | .rxStart => 33 + checkCycles s.op
  | .rxBitWh => 3 * bitsLeft s.bitCnt + 11 + checkCycles s.op
  | .rxBitWl => 3 * bitsLeft s.bitCnt + 10 + checkCycles s.op
  | .rxBitSample => 3 * bitsLeft s.bitCnt + 9 + checkCycles s.op
  | .rxParWh => 8 + checkCycles s.op
  | .rxParWl => 7 + checkCycles s.op
  | .rxParSample => 6 + checkCycles s.op
  | .rxStopWh => 5 + checkCycles s.op
  | .rxStopWl => 4 + checkCycles s.op
  | .rxStopSample => 3 + checkCycles s.op
  | .rxEndWh => 2 + checkCycles s.op
  | .rxDone => 1 + checkCycles s.op
  | .ackCheck => 1

theorem cyclesLeft_of_idle {s : State} (h : s.seq = .idle) : s.cyclesLeft = 0 := by simp [State.cyclesLeft, h]

/-- `cyclesLeft` reads `SEQ`, `OP`, `BITCNT`, `DLY` and the parameters only. -/
theorem cyclesLeft_congr {s t : State} {q : SeqState} (hq : t.seq = q) (hop : t.op = s.op) (hb : t.bitCnt = s.bitCnt)
    (hd : t.dly = s.dly) (hp : t.params = s.params) : t.cyclesLeft = (s.goto q).cyclesLeft := by
  unfold State.cyclesLeft
  rw [hq, hop, hb, hd, hp]
  rfl

/-! ### One cycle -/

/-- A next state has one cycle less to come, if this state writes neither of the two counters. -/
theorem cyclesLeft_eq_goto {s : State} (hs : s.seq ∉ [.txParity, .txInhibit, .txHold, .txBitWl, .rxStart, .rxBitSample]) :
    ∀ q ∈ s.nextStates, s.cyclesLeft = (s.goto q).cyclesLeft + 1 := by
  unfold State.nextStates
  cases hq : s.seq with
  | txParity | txInhibit | txHold | txBitWl | rxStart | rxBitSample => simp [hq] at hs
  | txIdleClk | rxDone => by_cases h3 : s.op = 3#2 <;> simp [State.cyclesLeft, replyCycles, checkCycles, hq, h3]
  | _ => simp +arith [SeqState.successors, State.cyclesLeft, hq]

/-- A cycle lowers the count by one at most: the states that write no counter move along the tables, TX_PARITY and RX_START clear
`BITCNT`, the two loops count a bit, and the hold is loaded and counted down. -/
theorem cyclesLeft_le_microStep (s : State) : s.cyclesLeft ≤ (microStep s).cyclesLeft + 1 := by
  cases hq : s.seq with
  | txParity | rxStart => simp +arith [State.cyclesLeft, microStep, hq, txParity, rxStart]
  | txInhibit =>
    have hload : s.params.inhibitCycles ≤ s.params.inhibitCycles - 1 + 1 := le_tsub_add
    simpa +arith [State.cyclesLeft, microStep, hq, txInhibit] using hload
  | txHold =>
    obtain ⟨h0, he⟩ | ⟨h0, he⟩ := delay_cases s .txStart
    · simp +arith [State.cyclesLeft, microStep, hq, txHold, he, h0]
    · have hcount : s.dly ≤ s.dly - 1 + 1 := le_tsub_add
      simpa +arith [State.cyclesLeft, microStep, hq, txHold, he] using hcount
  | txBitWl =>
    obtain he | ⟨h7, he⟩ | ⟨h7, he⟩ := txBitWl_cases s
    · simp [microStep, hq, he]
    · simp +arith [State.cyclesLeft, microStep, hq, he, h7]
    · simp +arith [State.cyclesLeft, microStep, hq, he, bitsLeft_eq_add_one _ h7]
  | rxBitSample =>
    obtain ⟨h7, he⟩ | ⟨h7, he⟩ := rxBitSample_cases s
    · simp +arith [State.cyclesLeft, microStep, hq, he, h7]
    · simp +arith [State.cyclesLeft, microStep, hq, he, bitsLeft_eq_add_one _ h7]
  | _ =>
    have hf := microStep_frame s
    rw [cyclesLeft_congr rfl hf.op (hf.bitCnt (by simp [hq])) (hf.dly (by simp [hq])) (microStep_params s)]
    exact goto_microStep_seq (P := fun t => s.cyclesLeft ≤ t.cyclesLeft + 1) (Nat.le_succ _)
      fun q hmem => (cyclesLeft_eq_goto (by simp [hq]) q hmem).le

/-! ### Runs -/

/-- An engine that is not reset is not idle before its count is over, whatever the peripheral and the host do. -/
theorem cyclesLeft_le_of_run {n : Nat} {s u : State} (hn : s.env.noReset) (h : run n s = .next u) (hu : u.seq = .idle) :
    s.cyclesLeft ≤ n := by
  induction n generalizing s with
  | zero =>
    cases h
    exact (cyclesLeft_of_idle hu).le
  | succ n ih =>
    by_cases hi : s.seq = .idle
    · rw [cyclesLeft_of_idle hi]
      exact Nat.zero_le _
    · rw [run_succ_next n (step_busy (hostNow_rst_of_noReset hn) hi)] at h
      have hn' : s.runCycle.env.noReset := noReset_advance ((microStep_env s).symm ▸ hn)
      calc s.cyclesLeft ≤ (microStep s).cyclesLeft + 1 := cyclesLeft_le_microStep s
        _ ≤ n + 1 := Nat.succ_le_succ (ih (s := s.runCycle) hn' h)

/-- The least number of cycles from a command's acceptance to its end, for a hold of `N` cycles: the table of R236. -/
def minimumCycles (N : Nat) : Instr → Nat
  | .config _ _ => 1
  | .send _ _ => N + 39
  | .recv _ _ => 34
  | .sendcmd _ _ => N + 74

/-- The count of an accepted command is the table's. -/
theorem cyclesLeft_of_exec {i : Instr} {s t : State} (hi : s.seq = .idle) (h : exec i s = .next t) :
    t.cyclesLeft = minimumCycles s.params.inhibitCycles i := by
  obtain ⟨_, _, rfl, rfl⟩ | ⟨_, _, rfl, -, rfl⟩ | ⟨_, _, rfl, -, rfl⟩ | ⟨_, _, rfl, -, rfl⟩ :=
    exec_idle_cases hi h <;> rfl

/-- No command ends in fewer cycles than the table's minimum (R236). -/
theorem minimumCycles_le_of_run {i : Instr} {s t u : State} {n : Nat} (hi : s.seq = .idle) (hn : s.env.noReset)
    (hrun : run n t = .next u) (hu : u.seq = .idle) (h : exec i s = .next t) :
    minimumCycles s.params.inhibitCycles i ≤ n := by
  have hn' : t.env.noReset := by
    obtain ⟨_, _, -, rfl⟩ | ⟨_, _, -, -, rfl⟩ | ⟨_, _, -, -, rfl⟩ | ⟨_, _, -, -, rfl⟩ := exec_idle_cases hi h <;>
      exact noReset_advance hn
  exact (cyclesLeft_of_exec hi h).symm.trans_le (cyclesLeft_le_of_run hn' hrun hu)

/-- Settles O53: at acceptance the count of the cycles still to come is the table's minimum. -/
theorem commandsTakeTheirMinimum : Obligations.CommandsTakeTheirMinimum :=
  fun _ _ _ _ _ _ hi hn hrun hu => ⟨minimumCycles_le_of_run hi hn hrun hu, minimumCycles_le_of_run hi hn hrun hu,
    minimumCycles_le_of_run hi hn hrun hu⟩

end Sys2Proof.Machine
end
